-- ==== Sys2Proof/Word.lean ====
section
/-! DEFINITION. The value widths of the MAC (00_scope.md R10, R12). -/

namespace Sys2Proof

/-- An unsigned 8-bit value: a clock value, a deadline, a sequence counter, a type code or a frame
byte (R12). Addition on it is the `+8` of R12: it wraps modulo 256 (R13). -/
abbrev Byte := BitVec 8

/-- A node address: `ADDR_BITS` = 16 bits (R10). -/
abbrev Addr := BitVec 16

/-- A command or result word: 32 bits (R90). -/
abbrev Word := BitVec 32

/-- A frame buffer: an array of bytes, byte `i` at offset `i` (R14). Its length is `FRAME_LEN` in every
state that `State.Inv` (Safety.lean) admits. -/
abbrev Frame := List Byte

end Sys2Proof
end

