-- ==== Sys2Proof/Config.lean ====
section
/-! DEFINITION. What an implementation fixes (00_scope.md R10), and the free values: answers of the
Transceiver that nothing constrains (60_exceptions.md R233). -/

namespace Sys2Proof

/-- The implementation parameters of R10. No command writes them (R32). `ADDR_BITS`, `SEQ_BITS` and
`TICK_BITS` are fixed by R10 and are the widths of Word.lean. -/
structure Config where
  /-- `RX_BURST_MAX`: frames pulled per TICK_RX, at most. -/
  rxBurstMax : Nat
  /-- `ACK_TIMEOUT`: ticks from send to ack deadline. -/
  ackTimeout : Byte
  /-- `BACKOFF_MASK`: the mask in the retry-tick formula. -/
  backoffMask : Byte
  /-- `MULTICAST_ADDR`: the reserved address every receiver matches. -/
  multicastAddr : Addr
  /-- `PAYLOAD_LEN`: bytes of payload per frame (OPEN in R10, D9). -/
  payloadLen : Nat
  /-- `STANDALONE_ACK`: may TICK_TX send a staged ack with no data frame (C1, D11). -/
  standaloneAck : Bool
  deriving DecidableEq, Repr

/-- `FRAME_LEN` = 6 + `PAYLOAD_LEN` (R10). -/
def Config.frameLen (c : Config) : Nat := 6 + c.payloadLen

/-- The ranges R10 gives its parameters (the 8-bit and 16-bit ones are in range by type). -/
abbrev Config.Legal (c : Config) : Prop :=
  1 ≤ c.rxBurstMax ∧ c.rxBurstMax ≤ 255 ∧ c.ackTimeout ≠ 0 ∧ c.payloadLen ≤ 249

/-- The defaults of R10, "the value this hardware takes". `PAYLOAD_LEN` is OPEN there: 4 is the value the
spec's own vectors assume (95_test_vectors.md). DESIGN CHOICE, unsafe (log 2): no statement rests on it. -/
def Config.default : Config where
  rxBurstMax := 5
  ackTimeout := 10
  backoffMask := 0xFC
  multicastAddr := 0xFFFF
  payloadLen := 4
  standaloneAck := true

/-- FREE VALUE: what `XBusy()` answers where the state lists no answer (R233; log 3). Nothing constrains it. -/
opaque Config.freeCarrier : Nat → Bool

/-- FREE VALUE: what `XTxActive()` answers where the state lists no answer (R233; log 3). Nothing
constrains it. -/
opaque Config.freeTxActive : Nat → Bool

end Sys2Proof
end

