-- ==== Sys2Proof/Syntax.lean ====
section
/-! DEFINITION. The host commands (30_encoding.md R94): one constructor per row of
spec/opcode_table.json, with the operands R93 assembles. -/

namespace Sys2Proof

/-- The three command formats of R92. -/
inductive Format where
  /-- No operand: `A16` and `T8` are reserved. -/
  | n
  /-- Address: `A16` is the operand, `T8` is reserved. -/
  | a
  /-- Submit: `A16` and `T8` are operands and a payload data phase follows. -/
  | s
  deriving DecidableEq, Repr

/-- The opcodes of R94, by name. -/
inductive Opcode where
  | setAddress | powerUp | powerDown | tickRx | tickTx | submit | collect | consume
  | readStatus | readTimers | readAck | readConfig
  deriving DecidableEq, Repr

/-- A host command with its operands (R93). -/
inductive Instr where
  /-- SET_ADDRESS (R201). -/
  | setAddress (addr : Addr)
  /-- POWER_UP (R202). -/
  | powerUp
  /-- POWER_DOWN (R203). -/
  | powerDown
  /-- TICK_RX (R129). -/
  | tickRx
  /-- TICK_TX (R152). -/
  | tickTx
  /-- SUBMIT (R181): receiver address `A16`, packet type `T8`, payload `P`. -/
  | submit (receiver : Addr) (type : Byte) (payload : List Byte)
  /-- COLLECT (R184). -/
  | collect
  /-- CONSUME (R186). -/
  | consume
  /-- READ_STATUS (R204). -/
  | readStatus
  /-- READ_TIMERS (R205). -/
  | readTimers
  /-- READ_ACK (R206). -/
  | readAck
  /-- READ_CONFIG (R207). -/
  | readConfig
  deriving DecidableEq, Repr

/-- The opcode of a command. -/
def Instr.opcode : Instr → Opcode
  | .setAddress _ => .setAddress
  | .powerUp => .powerUp
  | .powerDown => .powerDown
  | .tickRx => .tickRx
  | .tickTx => .tickTx
  | .submit _ _ _ => .submit
  | .collect => .collect
  | .consume => .consume
  | .readStatus => .readStatus
  | .readTimers => .readTimers
  | .readAck => .readAck
  | .readConfig => .readConfig

end Sys2Proof
end

