-- ==== Sys2Proof/WellFormed.lean ====
section
/-! DEFINITION. Which commands the command interface can carry. -/

namespace Sys2Proof

/-- A command is well formed when its data phase has the length R90 and R97 fix: exactly `PAYLOAD_LEN`
bytes for SUBMIT; no other command has a data phase. Every address and every type code is legal (R33, R181). -/
def Instr.wellFormed (c : Config) : Instr → Bool
  | .setAddress _ => true
  | .powerUp => true
  | .powerDown => true
  | .tickRx => true
  | .tickTx => true
  | .submit _ _ payload => payload.length == c.payloadLen
  | .collect => true
  | .consume => true
  | .readStatus => true
  | .readTimers => true
  | .readAck => true
  | .readConfig => true

end Sys2Proof
end

