-- ==== Sys2Proof/Decode.lean ====
section
/-! DEFINITION. Decoding and encoding of command words (30_encoding.md R91 to R97). The decoder is total:
it answers a command or a rejection by name. -/

namespace Sys2Proof

/-- `OP` = `CMD[7:0]` (R91). -/
def opField (w : Word) : Byte := w.extractLsb' 0 8

/-- `A16` = `CMD[23:8]`, unsigned, unscaled (R91, R93). -/
def a16Field (w : Word) : Addr := w.extractLsb' 8 16

/-- `T8` = `CMD[31:24]`, unsigned (R91, R93). -/
def t8Field (w : Word) : Byte := w.extractLsb' 24 8

/-- The opcode values of R94. -/
def Opcode.code : Opcode → Byte
  | .setAddress => 0x01
  | .powerUp => 0x02
  | .powerDown => 0x03
  | .tickRx => 0x10
  | .tickTx => 0x11
  | .submit => 0x20
  | .collect => 0x21
  | .consume => 0x30
  | .readStatus => 0x40
  | .readTimers => 0x41
  | .readAck => 0x42
  | .readConfig => 0x43

/-- The opcode an `OP` value names; every value not in the table of R94 is reserved (R96). -/
def Opcode.ofByte (b : Byte) : Option Opcode :=
  match b.toNat with
  | 0x01 => some .setAddress
  | 0x02 => some .powerUp
  | 0x03 => some .powerDown
  | 0x10 => some .tickRx
  | 0x11 => some .tickTx
  | 0x20 => some .submit
  | 0x21 => some .collect
  | 0x30 => some .consume
  | 0x40 => some .readStatus
  | 0x41 => some .readTimers
  | 0x42 => some .readAck
  | 0x43 => some .readConfig
  | _ => none

/-- The format column of R94. -/
def Opcode.format : Opcode → Format
  | .setAddress => .a
  | .submit => .s
  | .powerUp => .n
  | .powerDown => .n
  | .tickRx => .n
  | .tickTx => .n
  | .collect => .n
  | .consume => .n
  | .readStatus => .n
  | .readTimers => .n
  | .readAck => .n
  | .readConfig => .n

/-- The reserved field of a format is zero: `CMD[31:8]` for N, `CMD[31:24]` for A, none for S (R92, R95). -/
def Format.reservedClear (f : Format) (w : Word) : Bool :=
  match f with
  | .n => w.extractLsb' 8 24 == 0
  | .a => t8Field w == 0
  | .s => true

/-- The length of a command's data phase, fixed by `OP` alone (R90, R97). -/
def Opcode.dataLen (c : Config) (op : Opcode) : Nat :=
  match op.format with
  | .s => c.payloadLen
  | .a => 0
  | .n => 0

/-- Why a transfer is no command. -/
inductive Rejection where
  /-- `OP` is not in the table of R94 (R96): the MAC answers `ERR_ILLEGAL`. -/
  | reservedOpcode
  /-- A reserved field is not zero (R96): the MAC answers `ERR_ILLEGAL`. -/
  | reservedField
  /-- The data phase has another length than R90 and R97 fix: no transfer of the interface. -/
  | dataPhase
  deriving DecidableEq, Repr

/-- What the decoder answers. -/
inductive Decoded where
  | command (i : Instr)
  | rejected (r : Rejection)
  deriving DecidableEq, Repr

/-- Operand assembly (R93): the command of an opcode with `A16`, `T8` and the payload in order. -/
def Opcode.assemble (op : Opcode) (a16 : Addr) (t8 : Byte) (payload : List Byte) : Instr :=
  match op with
  | .setAddress => .setAddress a16
  | .powerUp => .powerUp
  | .powerDown => .powerDown
  | .tickRx => .tickRx
  | .tickTx => .tickTx
  | .submit => .submit a16 t8 payload
  | .collect => .collect
  | .consume => .consume
  | .readStatus => .readStatus
  | .readTimers => .readTimers
  | .readAck => .readAck
  | .readConfig => .readConfig

/-- `Decode(CMD)` of R95, in its order, then the length of the data phase. The data phase of an illegal word
is not looked at (R95; log 15). -/
def decode (c : Config) (w : Word) (data : List Byte) : Decoded :=
  match Opcode.ofByte (opField w) with
  | none => .rejected .reservedOpcode
  | some op =>
    if op.format.reservedClear w then
      if data.length == op.dataLen c then .command (op.assemble (a16Field w) (t8Field w) data)
      else .rejected .dataPhase
    else .rejected .reservedField

/-- The command word with fields `T8`, `A16`, `OP` (R91). -/
def commandWord (op : Opcode) (a16 : Addr) (t8 : Byte) : Word := t8 ++ a16 ++ op.code

/-- The word and the data phase of a command, from the encoding table of R91 to R94. -/
def encode : Instr → Word × List Byte
  | .setAddress addr => (commandWord .setAddress addr 0, [])
  | .powerUp => (commandWord .powerUp 0 0, [])
  | .powerDown => (commandWord .powerDown 0 0, [])
  | .tickRx => (commandWord .tickRx 0 0, [])
  | .tickTx => (commandWord .tickTx 0 0, [])
  | .submit receiver type payload => (commandWord .submit receiver type, payload)
  | .collect => (commandWord .collect 0 0, [])
  | .consume => (commandWord .consume 0 0, [])
  | .readStatus => (commandWord .readStatus 0 0, [])
  | .readTimers => (commandWord .readTimers 0 0, [])
  | .readAck => (commandWord .readAck 0 0, [])
  | .readConfig => (commandWord .readConfig 0 0, [])

/-- The mask of an opcode's row: the bits that R94 fixes. -/
def Opcode.mask (op : Opcode) : Word :=
  match op.format with
  | .n => 0xFFFFFFFF
  | .a => 0xFF0000FF
  | .s => 0x000000FF

/-- The match value of an opcode's row under its mask (R94). -/
def Opcode.matchWord (op : Opcode) : Word := commandWord op 0 0

/-- The transfer whose first `nbits` bits are `w` and whose other bits are zero: the word `w`, with the data
phase of zeros that its opcode has. -/
def zeroTransfer (c : Config) (nbits w : Nat) : Word × List Byte :=
  let word : Word := BitVec.ofNat 32 (w % 2 ^ nbits)
  match Opcode.ofByte (opField word) with
  | none => (word, [])
  | some op => (word, List.replicate (op.dataLen c) 0)

/-- The command the decoder reads from a table word, under the default parameters. -/
def decodeTableWord (nbits w : Nat) : Option Instr :=
  match decode Config.default (zeroTransfer Config.default nbits w).1
      (zeroTransfer Config.default nbits w).2 with
  | .command i => some i
  | .rejected _ => none

end Sys2Proof
end

