-- ==== Sys2Proof/Machine/State.lean ====
section
/-! DEFINITION. The state of the MAC (10_state.md), the inputs the host and the Transceiver give it and the
outputs it gives them (60_exceptions.md R231 to R233), and the state after reset (R50). -/

namespace Sys2Proof.Machine

/-- `TX_STATE`, the Send Transaction state (R37). The codes 6 and 7 are never held (R49(c)), so they have no
constructor (93_implementation_defined.md row 8). -/
inductive TxState where
  /-- No transaction. -/
  | idle
  /-- "queued, not yet attempted". -/
  | pending
  /-- "deferred due to detected carrier". -/
  | waitingForChannel
  /-- "frame sent, awaiting matching ack". -/
  | waitingForAck
  /-- Terminal. -/
  | succeeded
  /-- Terminal. -/
  | timedOut
  deriving DecidableEq, Repr

/-- The result codes of R100. -/
inductive ResultCode where
  | ok | busy | succeeded | timedOut | notReady | noTransaction | empty | packet
  | errIllegal | errUnconfigured | errLocked
  deriving DecidableEq, Repr

/-- What the MAC answers to one command: the result word `RES`, and the result data phase (R90, R99). -/
structure Response where
  word : Word
  data : List Byte
  deriving DecidableEq, Repr

/-- One request of the MAC to the Transceiver that does or decides something (R232). `XHasFrame` and
`XTxActive` are queries with no effect and are not recorded (R77; log 14). -/
inductive XcvrOp where
  /-- `XBusy()` was asked and answered `busy` (R163). -/
  | carrierSense (busy : Bool)
  /-- `XPop()` removed and returned this frame. -/
  | pop (f : Frame)
  /-- `XSend(f)`. -/
  | send (f : Frame)
  /-- `XPowerUp()` (R202). -/
  | powerUp
  /-- `XPowerDown()` (R203). -/
  | powerDown
  deriving DecidableEq, Repr

/-- One thing the outside does to the MAC, between commands or during the hold of TICK_TX. -/
inductive Input where
  /-- The host gives a command word and its data phase (R90). -/
  | command (word : Word) (data : List Byte)
  /-- A frame arrives in the Transceiver's receive queue (R102 `@rxq`, R233). -/
  | frame (f : Frame)
  /-- The Transceiver loses the frame at this place of its receive queue, head 0: a powered-down or an overflowing radio
  (93_implementation_defined.md rows 15 and 16; log 25). Past the end of the queue nothing is lost. -/
  | lose (place : Nat)
  /-- The environment fixes one more answer of `XBusy()` (R102 `@cs`), after those still unused (log 26). -/
  | carrier (busy : Bool)
  /-- The environment fixes one more answer of `XTxActive()`, after those still unused (log 26); `false` is R102's
  `@txdone`. -/
  | txActive (active : Bool)
  /-- The reset input (R251). -/
  | reset
  deriving DecidableEq, Repr

/-- The flags `fl` that TICK_TX reports (R152). They are a result, not state of R32. -/
structure TxFlags where
  timeout : Bool
  sensed : Bool
  busy : Bool
  ackSent : Bool
  dataSent : Bool
  deriving DecidableEq, Repr

/-- The command in progress while TICK_TX waits for the Transceiver (R72, R162): whether it was eligible, and
its flags. -/
structure Hold where
  elig : Bool
  flags : TxFlags
  deriving DecidableEq, Repr

/-- The whole machine: the registers of R32, the command in progress, the Transceiver as the MAC meets it, the
two interfaces, and the parameters. -/
structure State where
  /-- The parameters of R10, the argument of the model; no step writes them (R32; log 1). -/
  cfg : Config
  /-- `MY_ADDR` (R33). -/
  myAddr : Addr
  /-- `ADDR_SET` (R34). -/
  addrSet : Bool
  /-- `TICK`, the Logical Clock (R35). -/
  tick : Byte
  /-- `SEQ_CTR` (R36). -/
  seqCtr : Byte
  /-- `TX_STATE` (R37). -/
  txState : TxState
  /-- `TX_FRAME` (R38). -/
  txFrame : Frame
  /-- `TX_SEQ` (R39). -/
  txSeq : Byte
  /-- `ACK_DEADLINE` (R40). -/
  ackDeadline : Byte
  /-- `RETRY_DEADLINE` (R41). -/
  retryDeadline : Byte
  /-- `ACK_STAGED` (R42). -/
  ackStaged : Bool
  /-- `ACK_DST` (R42). -/
  ackDst : Addr
  /-- `ACK_SEQ` (R42). -/
  ackSeq : Byte
  /-- `RX_FULL` (R43). -/
  rxFull : Bool
  /-- `RX_FRAME` (R43). -/
  rxFrame : Frame
  /-- The TICK_TX in progress, if one is held (R72, R162). -/
  held : Option Hold
  /-- The Transceiver's receive queue, oldest frame first (R48, R232). -/
  rxq : List Frame
  /-- The answers to the next `XBusy()` calls, first answer first (R233; log 3). -/
  carrier : List Bool
  /-- The answers to the next `XTxActive()` calls, first answer first (R233; log 3). -/
  txAnswers : List Bool
  /-- How many answers were free values so far (log 3). -/
  draws : Nat
  /-- What the Transceiver was asked to do so far, oldest first (R232). -/
  xlog : List XcvrOp
  /-- What the outside does next, in order (R71, R233; log 7). -/
  inputs : List Input
  /-- What the MAC answered so far, oldest first (R90). -/
  responses : List Response
  deriving DecidableEq, Repr

/-- The faults of the MAC: none. "There are no fatal conditions within this core — all failure is expressed as a
returned outcome, never as an abort" (R220). The type has no constructor, so that no step can fault: safe (log 19). -/
inductive Fault where
  deriving DecidableEq, Repr

/-- Why a step has no meaning. -/
inductive Refusal where
  /-- A command whose meaning is not written; no arm of `exec` raises it. Safe. -/
  | notModelled (mnemonic : String)
  /-- `step` raises it for a command word whose data phase has not the length R90 and R97 fix: "No other
  transfer exists". Safe: the interface cannot carry it (log 8). -/
  | dataPhase
  /-- `step` raises it for an arriving frame that is not `FRAME_LEN` bytes long: R11 makes the equal length a
  premise of every launch. Safe (log 9). -/
  | frameLength
  deriving DecidableEq, Repr

/-- The three outcomes of a command of this machine. -/
abbrev Result := Host.Outcome State Fault Refusal

/-- The state after reset under parameters `c`: every register of R32 at its value of R50, no command in progress
(R250), the Transceiver idle and both interfaces empty (log 11). -/
def State.resetWith (c : Config) : State where
  cfg := c
  myAddr := 0
  addrSet := false
  tick := 0
  seqCtr := 0
  txState := .idle
  txFrame := List.replicate c.frameLen 0
  txSeq := 0
  ackDeadline := 0
  retryDeadline := 0
  ackStaged := false
  ackDst := 0
  ackSeq := 0
  rxFull := false
  rxFrame := List.replicate c.frameLen 0
  held := none
  rxq := []
  carrier := []
  txAnswers := []
  draws := 0
  xlog := []
  inputs := []
  responses := []

/-- The machine right after reset (R50, R250), under the default parameters (R10; log 2). -/
def State.reset : State := State.resetWith Config.default

end Sys2Proof.Machine
end

