-- ==== Sys2Proof/Machine/Flags.lean ====
section
/-! DEFINITION. Result words (30_encoding.md R98, R100): the result codes, TICK_TX's five flag bits and the data
layouts of the other commands. The MAC has no condition codes (R46). -/

namespace Sys2Proof.Machine

/-- The values of the result codes (R100). -/
def ResultCode.code : ResultCode → Byte
  | .ok => 0x00
  | .busy => 0x01
  | .succeeded => 0x02
  | .timedOut => 0x03
  | .notReady => 0x04
  | .noTransaction => 0x05
  | .empty => 0x06
  | .packet => 0x07
  | .errIllegal => 0xE0
  | .errUnconfigured => 0xE1
  | .errLocked => 0xE2

/-- The codes of `TX_STATE` (R37). -/
def TxState.code : TxState → BitVec 3
  | .idle => 0
  | .pending => 1
  | .waitingForChannel => 2
  | .waitingForAck => 3
  | .succeeded => 4
  | .timedOut => 5

/-- `RES`: the code in bits 7:0, the command's data in bits 31:8 (R98). -/
def resultWord (rc : ResultCode) (data : BitVec 24) : Word := data ++ rc.code

/-- No flag is set: `fl <- 0` (R152). -/
def TxFlags.none : TxFlags := ⟨false, false, false, false, false⟩

/-- TICK_TX's data: `RES[8]` TIMEOUT, `RES[9]` SENSED, `RES[10]` BUSY, `RES[11]` ACK_SENT, `RES[12]` DATA_SENT,
`RES[31:13]` zero (R152). -/
def TxFlags.data (fl : TxFlags) : BitVec 24 :=
  (0 : BitVec 19) ++ BitVec.ofBool fl.dataSent ++ BitVec.ofBool fl.ackSent ++ BitVec.ofBool fl.busy ++
    BitVec.ofBool fl.sensed ++ BitVec.ofBool fl.timeout

/-- TICK_RX's data: `RES[15:8]` the frames pulled, `RES[23:16]` the new `TICK`, `RES[31:24]` zero (R129). -/
def tickRxData (n : Nat) (tick : Byte) : BitVec 24 := (0 : Byte) ++ tick ++ BitVec.ofNat 8 n

/-- SUBMIT's data: `RES[15:8]` the stamped counter, `RES[31:16]` zero (R181). -/
def submitData (seq : Byte) : BitVec 24 := (0 : BitVec 16) ++ seq

/-- READ_STATUS's data (R204): `RES[10:8]` `TX_STATE`, `RES[11]` `ACK_STAGED`, `RES[12]` `RX_FULL`, `RES[13]`
`ADDR_SET`, `RES[15:14]` zero, `RES[23:16]` `TICK`, `RES[31:24]` `SEQ_CTR`. -/
def statusData (s : State) : BitVec 24 :=
  s.seqCtr ++ s.tick ++ (0 : BitVec 2) ++ BitVec.ofBool s.addrSet ++ BitVec.ofBool s.rxFull ++
    BitVec.ofBool s.ackStaged ++ s.txState.code

/-- READ_TIMERS's data (R205): `RES[15:8]` `TX_SEQ`, `RES[23:16]` `ACK_DEADLINE`, `RES[31:24]` `RETRY_DEADLINE`. -/
def timersData (s : State) : BitVec 24 := s.retryDeadline ++ s.ackDeadline ++ s.txSeq

/-- READ_ACK's data (R206): `RES[23:8]` `ACK_DST`, `RES[31:24]` `ACK_SEQ`. -/
def ackData (s : State) : BitVec 24 := s.ackSeq ++ s.ackDst

/-- READ_CONFIG's data (R207): `RES[23:8]` `MY_ADDR`, `RES[31:24]` zero. -/
def configData (s : State) : BitVec 24 := (0 : Byte) ++ s.myAddr

end Sys2Proof.Machine
end

