-- ==== Sys2Proof/Machine/Operands.lean ====
section
/-! DEFINITION. Frame buffers: byte order, layout, field accessors (00_scope.md R14, R17; 20_memory.md R73, R74),
the packet type codes (R101) and the two questions the Receive Drainer asks of a frame (R123, R125). -/

namespace Sys2Proof.Machine

/-- Byte `i` of a frame buffer: `BUF[i]` (R14). Offsets past the end, which no rule uses, read 0. -/
def byteAt (buf : Frame) (i : Nat) : Byte := buf.getD i 0

/-- `MemRead(BUF, off, n)`: the `n` bytes at offset `off` as one little-endian unsigned value (R14, R73). -/
def memRead (buf : Frame) (off : Nat) : Nat → Nat
  | 0 => 0
  | n + 1 => (byteAt buf off).toNat + 256 * memRead buf (off + 1) n

/-- `MemWrite(BUF, off, n, v)`: the `n` low bytes of `v` into the buffer at offset `off`, little-endian (R14, R73). -/
def memWrite (buf : Frame) (off : Nat) : Nat → Nat → Frame
  | 0, _ => buf
  | n + 1, v => memWrite (buf.set off (BitVec.ofNat 8 v)) (off + 1) n (v / 256)

/-- `F.sender` (R17, R74). -/
def senderOf (f : Frame) : Addr := BitVec.ofNat 16 (memRead f 0 2)

/-- `F.receiver` (R17, R74). -/
def receiverOf (f : Frame) : Addr := BitVec.ofNat 16 (memRead f 2 2)

/-- `F.seq` (R17, R74). -/
def seqOf (f : Frame) : Byte := BitVec.ofNat 8 (memRead f 4 1)

/-- `F.type` (R17, R74). -/
def typeOf (f : Frame) : Byte := BitVec.ofNat 8 (memRead f 5 1)

/-- `F.payload` = `F[6 .. FRAME_LEN-1]` (R17, R74). -/
def payloadOf (f : Frame) : List Byte := f.drop 6

/-- `MakeFrame(s, r, q, t, p)`: the buffer with those fields, at the offsets of R74 (R17). -/
def makeFrame (sender receiver : Addr) (seq type : Byte) (payload : List Byte) : Frame :=
  let blank : Frame := List.replicate 6 0 ++ payload
  let f1 := memWrite blank 0 2 sender.toNat
  let f2 := memWrite f1 2 2 receiver.toNat
  let f3 := memWrite f2 4 1 seq.toNat
  memWrite f3 5 1 type.toNat

/-- The type code `DATA` (R101). -/
def typeData : Byte := 0x00

/-- The type code `ACK` (R101). -/
def typeAck : Byte := 0x01

/-- The type code `ACK_RESP` (R101). -/
def typeAckResp : Byte := 0x02

/-- The ACK classifier (R125): `ACK` and `ACK_RESP` are acknowledgements; every other type, the reserved codes
included, is DATA (R126). -/
def isAckFrame (f : Frame) : Bool := typeOf f == typeAck || typeOf f == typeAckResp

/-- The packet RX filter (R123): the receiver field, and nothing else, decides. -/
def addressedTo (c : Config) (me : Addr) (f : Frame) : Bool :=
  receiverOf f == me || receiverOf f == c.multicastAddr

end Sys2Proof.Machine
end

