-- ==== Sys2Proof/Machine/Ops.lean ====
section
/-! DEFINITION. The operations every command is made of: results, the configuration gate, the Transceiver
primitives (00_scope.md R15), reset (70_reset_and_hazards.md R250) and the taking of the next input. The MAC takes
no exception (R220), so there is no exception entry and no return: a failure is a result code. -/

namespace Sys2Proof.Machine

/-- `return code, data`, with the result data phase `phase` (R16, R98, R99). -/
def respondWith (rc : ResultCode) (data : BitVec 24) (phase : List Byte) (s : State) : State :=
  { s with responses := s.responses ++ [⟨resultWord rc data, phase⟩] }

/-- `return code`: every bit no rule gives is zero (R98). -/
def respond (rc : ResultCode) (s : State) : State := respondWith rc 0 [] s

/-- The configuration gate (R223): while `ADDR_SET = 0` the command returns `ERR_UNCONFIGURED` and has no other
effect. -/
def whenConfigured (s : State) (run : Result) : Result :=
  if s.addrSet then run else .next (respond .errUnconfigured s)

/-- What the next `XBusy()` answers: the first listed answer, else a free value (R233; log 3). -/
def busyAnswer (s : State) : Bool :=
  match s.carrier with
  | b :: _ => b
  | [] => Config.freeCarrier s.draws

/-- The state after one `XBusy()`: its answer is used up, and the request is on record (R163). -/
def askBusy (s : State) : State :=
  match s.carrier with
  | b :: rest => { s with carrier := rest, xlog := s.xlog ++ [.carrierSense b] }
  | [] => { s with draws := s.draws + 1, xlog := s.xlog ++ [.carrierSense (Config.freeCarrier s.draws)] }

/-- What the next `XTxActive()` answers: the first listed answer, else a free value (R233; log 3). -/
def txActiveAnswer (s : State) : Bool :=
  match s.txAnswers with
  | b :: _ => b
  | [] => Config.freeTxActive s.draws

/-- The state after one `XTxActive()`: its answer is used up (R233). -/
def askTxActive (s : State) : State :=
  match s.txAnswers with
  | _ :: rest => { s with txAnswers := rest }
  | [] => { s with draws := s.draws + 1 }

/-- `XSend(F)` (R15, R232). -/
def xSend (f : Frame) (s : State) : State := { s with xlog := s.xlog ++ [.send f] }

/-- `XPowerUp()` (R15, R202). The queued frames: log 25. -/
def xPowerUp (s : State) : State := { s with xlog := s.xlog ++ [.powerUp] }

/-- `XPowerDown()` (R15, R203). The spec leaves open what becomes of frames already queued: DESIGN CHOICE (log 25), the
request itself keeps them, and the environment may lose any of them by `Input.lose`, at once or later. -/
def xPowerDown (s : State) : State := { s with xlog := s.xlog ++ [.powerDown] }

/-- `XPop()` of the frame `f` at the head of the receive queue, which leaves `rest` (R15, R232). -/
def xPop (f : Frame) (rest : List Frame) (s : State) : State :=
  { s with rxq := rest, xlog := s.xlog ++ [.pop f] }

/-- Reset (R250): every register of R32 takes its value of R50 and the command in progress ends without its
remaining effects; the Transceiver, what was already answered and the parameters are untouched (log 10). -/
def applyReset (s : State) : State :=
  { State.resetWith s.cfg with
    rxq := s.rxq
    carrier := s.carrier
    txAnswers := s.txAnswers
    draws := s.draws
    xlog := s.xlog
    inputs := s.inputs
    responses := s.responses }

/-- The inputs still to come. -/
def setInputs (rest : List Input) (s : State) : State := { s with inputs := rest }

/-- A frame arrives at the end of the receive queue (R233). -/
def arrive (f : Frame) (s : State) : State := { s with rxq := s.rxq ++ [f] }

/-- The Transceiver loses one queued frame (R203, R233; log 25). -/
def loseFrame (place : Nat) (s : State) : State := { s with rxq := s.rxq.eraseIdx place }

/-- The environment fixes one more answer of `XBusy()` (R102). Where an answer fixed earlier is still unused, R102 leaves open
which one the next `XBusy()` gives: DESIGN CHOICE (log 26), the older one, and the new one waits behind it. -/
def addCarrier (b : Bool) (s : State) : State := { s with carrier := s.carrier ++ [b] }

/-- The environment fixes one more answer of `XTxActive()` (R102). DESIGN CHOICE (log 26): it waits behind the answers fixed
earlier and still unused. -/
def addTxAnswer (b : Bool) (s : State) : State := { s with txAnswers := s.txAnswers ++ [b] }

/-- What the MAC meets next. -/
inductive Fetch where
  /-- No command and nothing else: the MAC waits (R78; log 6). -/
  | idle
  /-- An event of the environment, or reset, which leaves this state. -/
  | event (t : State)
  /-- A frame that is not `FRAME_LEN` bytes long (R11). -/
  | badFrame
  /-- TICK_TX is held and looks again whether the burst is complete (R72, R162). -/
  | poll (h : Hold)
  /-- A command word with its data phase, taken from the command interface (R90). -/
  | command (word : Word) (data : List Byte) (t : State)
  deriving DecidableEq, Repr

/-- The next input. Events and reset are met at once; a command is taken only when no command is in progress
(R71, R72), and while TICK_TX is held the wait goes on instead (log 5). -/
def fetch (s : State) : Fetch :=
  match s.inputs with
  | [] =>
    match s.held with
    | some h => .poll h
    | none => .idle
  | .command word data :: rest =>
    match s.held with
    | some h => .poll h
    | none => .command word data (setInputs rest s)
  | .frame f :: rest =>
    if f.length == s.cfg.frameLen then .event (arrive f (setInputs rest s)) else .badFrame
  | .lose place :: rest => .event (loseFrame place (setInputs rest s))
  | .carrier b :: rest => .event (addCarrier b (setInputs rest s))
  | .txActive b :: rest => .event (addTxAnswer b (setInputs rest s))
  | .reset :: rest => .event (applyReset (setInputs rest s))

/-- What becomes of a transfer that is no command: an illegal word returns `ERR_ILLEGAL` with no other effect
(R95, R96); a data phase of another length is no transfer of the interface (R90; log 8). -/
def rejectCommand (r : Rejection) (s : State) : Result :=
  match r with
  | .reservedOpcode => .next (respond .errIllegal s)
  | .reservedField => .next (respond .errIllegal s)
  | .dataPhase => .refused .dataPhase

end Sys2Proof.Machine
end

