-- ==== Sys2Proof/Machine/Control.lean ====
section
/-! DEFINITION. Configuration, power and observation commands (44_control.md). None of them is gated by `ADDR_SET`
(R200, R223). -/

namespace Sys2Proof.Machine

/-- The Device Identity is assigned: `MY_ADDR <- A16`, `ADDR_SET <- 1` (R201). -/
def assignAddress (addr : Addr) (s : State) : State := { s with myAddr := addr, addrSet := true }

/-- SET_ADDRESS (R201): once per reset. -/
def execSetAddress (addr : Addr) (s : State) : Result :=
  if s.addrSet then .next (respond .errLocked s)
  else .next (respond .ok (assignAddress addr s))

/-- POWER_UP (R202): passed through; the MAC keeps no power state (R51). -/
def execPowerUp (s : State) : Result := .next (respond .ok (xPowerUp s))

/-- POWER_DOWN (R203): passed through; a transaction in progress is not cancelled. The queued frames: log 25. -/
def execPowerDown (s : State) : Result := .next (respond .ok (xPowerDown s))

/-- READ_STATUS (R204). -/
def execReadStatus (s : State) : Result := .next (respondWith .ok (statusData s) [] s)

/-- READ_TIMERS (R205). -/
def execReadTimers (s : State) : Result := .next (respondWith .ok (timersData s) [] s)

/-- READ_ACK (R206). -/
def execReadAck (s : State) : Result := .next (respondWith .ok (ackData s) [] s)

/-- READ_CONFIG (R207). -/
def execReadConfig (s : State) : Result := .next (respondWith .ok (configData s) [] s)

end Sys2Proof.Machine
end

