-- ==== Sys2Proof/Machine/Receive.lean ====
section
/-! DEFINITION. The Receive Drainer (41_receive_drainer.md): TICK_RX with the packet RX filter, the ACK
classifier and the sequence-counter matcher. -/

namespace Sys2Proof.Machine

/-- The clock step: `TICK <- TICK +8 1` (R121). -/
def clockStep (s : State) : State := { s with tick := s.tick + 1 }

/-- The transaction succeeds: `TX_STATE <- SUCCEEDED` (R127). -/
def completeTransaction (s : State) : State := { s with txState := .succeeded }

/-- The sequence-counter matcher (R127): the counter alone is consulted, not the sender, the payload, the clock or
the deadline (R132, R133, R135). -/
def matchAck (f : Frame) (s : State) : State :=
  if s.txState = .waitingForAck ∧ seqOf f = s.txSeq then completeTransaction s else s

/-- DATA acceptance (R128): stage the ack, replacing any staged one, and keep the whole frame. -/
def acceptData (f : Frame) (s : State) : State :=
  { s with
    ackStaged := true
    ackDst := senderOf f
    ackSeq := seqOf f
    rxFrame := f
    rxFull := true }

/-- What one pulled frame does: filter (R123, R124), classifier (R125, R126), matcher or acceptance. -/
def receiveFrame (f : Frame) (s : State) : State :=
  if addressedTo s.cfg s.myAddr f then
    if isAckFrame f then matchAck f s else acceptData f s
  else s

/-- The drain loop (R122) with `budget` frames left to pull: it goes on while a frame is queued, the slot is empty
and the budget lasts. The result is how many frames it pulled, and the state. -/
def drain : Nat → State → Nat × State
  | 0, s => (0, s)
  | budget + 1, s =>
    if s.rxFull then (0, s)
    else
      match s.rxq with
      | [] => (0, s)
      | f :: rest =>
        let r := drain budget (receiveFrame f (xPop f rest s))
        (r.1 + 1, r.2)

/-- TICK_RX (R129). -/
def execTickRx (s : State) : Result :=
  whenConfigured s <|
    let r := drain s.cfg.rxBurstMax (clockStep s)
    .next (respondWith .ok (tickRxData r.1 r.2.tick) [] r.2)

end Sys2Proof.Machine
end

