-- ==== Sys2Proof/Machine/Send.lean ====
section
/-! DEFINITION. The Send Coordinator (43_send_coordinator.md): SUBMIT, COLLECT, CONSUME. -/

namespace Sys2Proof.Machine

/-- An accepted SUBMIT (R181): the counter is incremented and stamped, with this node's address as sender, into the
transaction's frame. -/
def stampTransaction (receiver : Addr) (type : Byte) (payload : List Byte) (s : State) : State :=
  { s with
    seqCtr := s.seqCtr + 1
    txFrame := makeFrame s.myAddr receiver (s.seqCtr + 1) type payload
    txSeq := s.seqCtr + 1
    txState := .pending }

/-- SUBMIT (R181, R182). `XTxActive()` is asked after the state check, and only if the slot is free (D23; log 13). -/
def execSubmit (receiver : Addr) (type : Byte) (payload : List Byte) (s : State) : Result :=
  whenConfigured s <|
    if s.txState ≠ .idle then .next (respond .busy s)
    else if txActiveAnswer s then .next (respond .busy (askTxActive s))
    else
      .next (respondWith .ok (submitData (s.seqCtr + 1)) []
        (stampTransaction receiver type payload (askTxActive s)))

/-- A terminal transaction is handed over and the slot freed: `TX_STATE <- IDLE` (R184). -/
def freeTransaction (s : State) : State := { s with txState := .idle }

/-- COLLECT (R184). -/
def execCollect (s : State) : Result :=
  whenConfigured s <|
    match s.txState with
    | .succeeded => .next (respond .succeeded (freeTransaction s))
    | .timedOut => .next (respond .timedOut (freeTransaction s))
    | .idle => .next (respond .noTransaction s)
    | .pending => .next (respond .notReady s)
    | .waitingForChannel => .next (respond .notReady s)
    | .waitingForAck => .next (respond .notReady s)

/-- The pending inbound slot is emptied: `RX_FULL <- 0` (R186). -/
def clearInbound (s : State) : State := { s with rxFull := false }

/-- CONSUME (R186): the whole frame is handed over and the slot cleared. -/
def execConsume (s : State) : Result :=
  whenConfigured s <|
    if s.rxFull then .next (respondWith .packet 0 s.rxFrame (clearInbound s))
    else .next (respond .empty s)

end Sys2Proof.Machine
end

