-- ==== Sys2Proof/Machine/Transmit.lean ====
section
/-! DEFINITION. The Transmit Attempter (42_transmit_attempter.md): TICK_TX with the retry timer, the carrier-sense
arbiter and the collision-avoidance scheduler. -/

namespace Sys2Proof.Machine

/-- The retry timer fires: `TX_STATE = WAITING_FOR_ACK and TICK = ACK_DEADLINE`, an equality (R155, R166). -/
def ackTimedOut (s : State) : Bool := s.txState == .waitingForAck && s.tick == s.ackDeadline

/-- The transaction times out: `TX_STATE <- TIMED_OUT` (R155). -/
def timeOutTransaction (s : State) : State := { s with txState := .timedOut }

/-- The timeout check (R155), made on every accepted TICK_TX (C2). -/
def checkTimeout (s : State) : State := if ackTimedOut s then timeOutTransaction s else s

/-- Eligibility (R151): may this TICK_TX attempt the data frame? -/
def eligible (s : State) : Bool :=
  s.txState == .pending || (s.txState == .waitingForChannel && s.tick == s.retryDeadline)

/-- A staged ack goes out alone (R161). -/
def ackOnly (s : State) : Bool := !eligible s && s.ackStaged && s.cfg.standaloneAck

/-- The retry tick `TICK +8 1 +8 (TICK & BACKOFF_MASK)` (R160). -/
def retryTick (c : Config) (tick : Byte) : Byte := tick + 1 + (tick &&& c.backoffMask)

/-- The collision-avoidance scheduler (R156, R160). -/
def deferTransaction (s : State) : State :=
  { s with txState := .waitingForChannel, retryDeadline := retryTick s.cfg s.tick }

/-- The ack frame (R158): from this node, to the data frame's sender, with its counter and a zero payload. -/
def ackFrame (s : State) : Frame :=
  makeFrame s.myAddr s.ackDst s.ackSeq typeAck (List.replicate s.cfg.payloadLen 0)

/-- The stage flag is cleared: `ACK_STAGED <- 0` (R157). -/
def clearStagedAck (s : State) : State := { s with ackStaged := false }

/-- The first part of the burst: a staged ack is pushed and its stage flag cleared (R157). -/
def sendStagedAck (s : State) : State :=
  if s.ackStaged then clearStagedAck (xSend (ackFrame s) s) else s

/-- The second part of the burst: an eligible TICK_TX pushes `TX_FRAME` (R157, R79). -/
def sendData (elig : Bool) (s : State) : State := if elig then xSend s.txFrame s else s

/-- What an eligible TICK_TX does when its burst is complete: `WAITING_FOR_ACK`, with the deadline
`TICK +8 ACK_TIMEOUT` (R157, R159). -/
def awaitAck (s : State) : State :=
  { s with txState := .waitingForAck, ackDeadline := s.tick + s.cfg.ackTimeout }

/-- Whether TICK_TX is in progress, and with what (R72). -/
def setHeld (h : Option Hold) (s : State) : State := { s with held := h }

/-- The end of TICK_TX after its wait (R152, R162). -/
def finishBurst (h : Hold) (s : State) : State :=
  respondWith .ok h.flags.data [] (if h.elig then awaitAck (setHeld none s) else setHeld none s)

/-- `wait until not XTxActive()` (R162): the MAC asks once; if the Transceiver is still active TICK_TX is held, and
asks again at the next step (log 5). -/
def awaitBurst (h : Hold) (s : State) : State :=
  if txActiveAnswer s then setHeld (some h) (askTxActive s) else finishBurst h (askTxActive s)

/-- The attempt of a TICK_TX that senses the channel (R156, R157, R161), with the flag TIMEOUT so far. -/
def attempt (timeout : Bool) (s : State) : State :=
  if busyAnswer s then
    respondWith .ok (TxFlags.data ⟨timeout, true, true, false, false⟩) []
      (if eligible s then deferTransaction (askBusy s) else askBusy s)
  else
    awaitBurst ⟨eligible s, ⟨timeout, true, false, s.ackStaged, eligible s⟩⟩
      (sendData (eligible s) (sendStagedAck (askBusy s)))

/-- TICK_TX (R152): the timeout check, then eligibility and the attempt (R153). -/
def execTickTx (s : State) : Result :=
  whenConfigured s <|
    if eligible (checkTimeout s) || ackOnly (checkTimeout s) then
      .next (attempt (ackTimedOut s) (checkTimeout s))
    else
      .next (respondWith .ok (TxFlags.data ⟨ackTimedOut s, false, false, false, false⟩) [] (checkTimeout s))

end Sys2Proof.Machine
end

