-- ==== Sys2Proof/Machine/Dispatch.lean ====
section
/-! DEFINITION. One arm per command: the dispatch of 30_encoding.md R95. -/

namespace Sys2Proof.Machine

/-- The meaning of a command (R95). -/
def exec (i : Instr) (s : State) : Host.Outcome State Fault Refusal :=
  match i with
  | .setAddress addr => Sys2Proof.Machine.execSetAddress addr s
  | .powerUp => Sys2Proof.Machine.execPowerUp s
  | .powerDown => Sys2Proof.Machine.execPowerDown s
  | .tickRx => Sys2Proof.Machine.execTickRx s
  | .tickTx => Sys2Proof.Machine.execTickTx s
  | .submit receiver type payload => Sys2Proof.Machine.execSubmit receiver type payload s
  | .collect => Sys2Proof.Machine.execCollect s
  | .consume => Sys2Proof.Machine.execConsume s
  | .readStatus => Sys2Proof.Machine.execReadStatus s
  | .readTimers => Sys2Proof.Machine.execReadTimers s
  | .readAck => Sys2Proof.Machine.execReadAck s
  | .readConfig => Sys2Proof.Machine.execReadConfig s

end Sys2Proof.Machine
end

