-- ==== Sys2Proof/Machine/Step.lean ====
section
/-! DEFINITION. One step of the machine. -/

namespace Sys2Proof.Machine

/-- One step: an event of the environment or reset, one more look at a burst in flight, or one host command,
decoded before anything else (R95) and run to its result or to its hold (R71, R72). -/
def step (s : State) : Host.Outcome State Fault Refusal :=
  match fetch s with
  | .idle => .next s
  | .event t => .next t
  | .badFrame => .refused .frameLength
  | .poll h => .next (awaitBurst h s)
  | .command word data t =>
    match decode s.cfg word data with
    | .command i => exec i t
    | .rejected r => rejectCommand r t

/-- `s` with the command of the bits `w` at the command interface, as the next transfer, its data phase all zero.
A TICK_TX in progress is ended, since the interface takes no command during its hold (R72; log 20). -/
def State.withFetchWord (s : State) (nbits w : Nat) : State :=
  { s with
    held := none
    inputs := .command (zeroTransfer s.cfg nbits w).1 (zeroTransfer s.cfg nbits w).2 :: s.inputs }

end Sys2Proof.Machine
end

