-- ==== Sys2Proof/Safety.lean ====
section
/-! DEFINITION. What a safe state of the MAC is: the invariants of 10_state.md R49, the frame lengths of
20_memory.md R74 and R76, and what a command in progress implies (20_memory.md R72). -/

namespace Sys2Proof.Machine

/-- Every frame of the machine is `FRAME_LEN` bytes long (R11, R74, R76). -/
abbrev State.FramesFit (s : State) : Prop :=
  s.txFrame.length = s.cfg.frameLen ∧ s.rxFrame.length = s.cfg.frameLen ∧
    ∀ f ∈ s.rxq, f.length = s.cfg.frameLen

/-- R49(a): while a transaction exists its frame carries its counter and this node's address. -/
abbrev State.TransactionStamped (s : State) : Prop :=
  s.txState ≠ .idle → seqOf s.txFrame = s.txSeq ∧ senderOf s.txFrame = s.myAddr

/-- R49(d): before SET_ADDRESS the protocol has not begun, and no command is in progress. -/
abbrev State.UnconfiguredQuiet (s : State) : Prop :=
  s.addrSet = false →
    s.txState = .idle ∧ s.ackStaged = false ∧ s.rxFull = false ∧ s.tick = 0 ∧ s.seqCtr = 0 ∧ s.held = none

/-- What a held TICK_TX leaves behind it while it waits: an eligible one is still eligible, and its ack, if one was
staged, has been pushed (R72, R157). -/
abbrev State.HoldConsistent (s : State) : Prop :=
  ∀ h ∈ s.held, s.ackStaged = false ∧ h.elig = eligible s ∧
    (h.flags.sensed = true ∧ h.flags.busy = false ∧ h.flags.dataSent = h.elig)

/-- The invariant of the MAC (R49; (b) and (c) hold by the types of the state). -/
abbrev State.Inv (s : State) : Prop :=
  s.FramesFit ∧ s.TransactionStamped ∧ s.UnconfiguredQuiet ∧ s.HoldConsistent

/-- The Device Identity (R33, R34), which only SET_ADDRESS writes (R45). -/
abbrev sameIdentity (s t : State) : Prop := t.myAddr = s.myAddr ∧ t.addrSet = s.addrSet

/-- `TX_FRAME`, `TX_SEQ` and `SEQ_CTR`, which only SUBMIT writes (R45). -/
abbrev sameSubmission (s t : State) : Prop :=
  t.seqCtr = s.seqCtr ∧ t.txFrame = s.txFrame ∧ t.txSeq = s.txSeq

/-- The two deadlines, which only TICK_TX writes (R45). -/
abbrev sameDeadlines (s t : State) : Prop :=
  t.ackDeadline = s.ackDeadline ∧ t.retryDeadline = s.retryDeadline

/-- The staged ack (R42). -/
abbrev sameAck (s t : State) : Prop :=
  t.ackStaged = s.ackStaged ∧ t.ackDst = s.ackDst ∧ t.ackSeq = s.ackSeq

/-- The pending inbound packet (R43). -/
abbrev sameInbound (s t : State) : Prop := t.rxFull = s.rxFull ∧ t.rxFrame = s.rxFrame

/-- Every register of R32 is as before. -/
abbrev sameRegisters (s t : State) : Prop :=
  sameIdentity s t ∧ t.tick = s.tick ∧ t.txState = s.txState ∧ sameSubmission s t ∧ sameDeadlines s t ∧
    sameAck s t ∧ sameInbound s t

/-- The Transceiver's side is as before: its receive queue, its answers and what it was asked to do (R232). -/
abbrev sameTransceiver (s t : State) : Prop :=
  t.rxq = s.rxq ∧ t.carrier = s.carrier ∧ t.txAnswers = s.txAnswers ∧ t.draws = s.draws ∧ t.xlog = s.xlog

/-- The parameters, the inputs still to come and the command in progress are as before. -/
abbrev sameRun (s t : State) : Prop := t.cfg = s.cfg ∧ t.inputs = s.inputs ∧ t.held = s.held

/-- The command answered exactly one result: this word and this data phase (R90). -/
abbrev answers (s t : State) (word : Word) (phase : List Byte) : Prop :=
  t.responses = s.responses ++ [⟨word, phase⟩]

/-- The command interface shows this transfer next, and no command is in progress, so that it is taken (R71, R90). -/
abbrev offered (s : State) (word : Word) (data : List Byte) (rest : List Input) : Prop :=
  s.inputs = .command word data :: rest ∧ s.held = none

/-- The frames that `XPop()` returned, oldest first (R232, R233). -/
def popped (log : List XcvrOp) : List Frame :=
  log.filterMap fun op =>
    match op with
    | .pop f => some f
    | .carrierSense _ => none
    | .send _ => none
    | .powerUp => none
    | .powerDown => none

/-- A frame that TICK_RX accepts as DATA: addressed to this node and no acknowledgement (R123, R125, R126). -/
abbrev isDataForMe (s : State) (f : Frame) : Bool := addressedTo s.cfg s.myAddr f && !isAckFrame f

/-- A frame that resolves the outstanding transaction: an addressed acknowledgement with its counter (R127). -/
abbrev isAckForMe (s : State) (f : Frame) : Bool :=
  addressedTo s.cfg s.myAddr f && isAckFrame f && seqOf f == s.txSeq

/-- The next input is an event of the environment that a step can take, neither a command nor reset (R233). -/
def IsEvent (c : Config) : Input → Prop
  | .frame f => f.length = c.frameLen
  | .lose _ => True
  | .carrier _ => True
  | .txActive _ => True
  | .command _ _ => False
  | .reset => False

/-- TICK_RX pulled an acknowledgement that resolves the transaction: the slot was empty, and among the `n` frames it took
from the head of the queue, at most `RX_BURST_MAX`, is an addressed one with its counter (R122, R127). -/
def PulledAckForMe (s t : State) : Prop :=
  s.rxFull = false ∧ ∃ n, n ≤ s.cfg.rxBurstMax ∧ t.rxq = s.rxq.drop n ∧
    t.xlog = s.xlog ++ (s.rxq.take n).map .pop ∧ ∃ f ∈ s.rxq.take n, isAckForMe s f = true

/-- The moves of `TX_STATE` that R44 allows a command `i` that takes state `s` to state `t`, reset apart. -/
def TxMove (i : Instr) (s t : State) : Prop :=
  match i with
  | .submit _ _ _ => s.txState = .idle ∧ t.txState = .pending
  | .tickTx =>
      (s.txState = .pending ∧ busyAnswer s = true ∧ t.txState = .waitingForChannel) ∨
        (s.txState = .pending ∧ busyAnswer s = false ∧ t.txState = .waitingForAck) ∨
        (s.txState = .waitingForChannel ∧ s.tick = s.retryDeadline ∧ busyAnswer s = false ∧
          t.txState = .waitingForAck) ∨
        (s.txState = .waitingForAck ∧ s.tick = s.ackDeadline ∧ t.txState = .timedOut)
  | .tickRx => s.txState = .waitingForAck ∧ PulledAckForMe s t ∧ t.txState = .succeeded
  | .collect => (s.txState = .succeeded ∨ s.txState = .timedOut) ∧ t.txState = .idle
  | .setAddress _ => False
  | .powerUp => False
  | .powerDown => False
  | .consume => False
  | .readStatus => False
  | .readTimers => False
  | .readAck => False
  | .readConfig => False

end Sys2Proof.Machine
end

