-- ==== Sys2Proof/Certificates/Slice0/Obligations.lean ====
section
/-! DEFINITION. The statements for the provers. Each says which rule of spec/ it formalises; a statement that rests on a
choice of the model says so and names the log entry. -/

open Sys2Proof Sys2Proof.Machine

/-! ## Encoding (30_encoding.md) -/

/-- R91 to R95: decoding the encoding of a well-formed command gives that command back, every operand at every value,
under every parameter set. -/
def Obligations.DecodeOfEncodeGivesTheCommandBack : Prop :=
  ∀ (c : Config) (i : Instr), i.wellFormed c = true → decode c (encode i).1 (encode i).2 = .command i

/-- R92, R96, R97: whatever the decoder accepts is well formed and is exactly the encoding of the command it answers, so
no two transfers mean the same command and no bit is dropped. -/
def Obligations.DecoderAcceptsOnlyEncodings : Prop :=
  ∀ (c : Config) (word : Word) (data : List Byte) (i : Instr),
    decode c word data = .command i → encode i = (word, data) ∧ i.wellFormed c = true

/-- R94: the words a row accepts are those that agree with its match value under its mask. The three masks are written
out as R94 gives them. -/
def Obligations.DecoderAcceptsExactlyTheRowsUnderTheirMasks : Prop :=
  ∀ (c : Config) (word : Word) (data : List Byte) (op : Opcode),
    (∃ i, decode c word data = .command i ∧ i.opcode = op) ↔
      data.length = op.dataLen c ∧
        match op.format with
        | .n => word &&& 0xFFFFFFFF = op.code.zeroExtend 32
        | .a => word &&& 0xFF0000FF = op.code.zeroExtend 32
        | .s => word &&& 0x000000FF = op.code.zeroExtend 32

/-- R104: the command words the spec spells out, with a data phase of `PAYLOAD_LEN` bytes for SUBMIT, and its two
illegal words. -/
def Obligations.SpelledOutWordsDecodeAsR104Says : Prop :=
  ∀ (c : Config) (p : List Byte), p.length = c.payloadLen →
    decode c 0x00000101 [] = .command (.setAddress 0x0001) ∧
    decode c 0x00BEEF01 [] = .command (.setAddress 0xBEEF) ∧
    decode c 0x00000010 [] = .command .tickRx ∧
    decode c 0x00000011 [] = .command .tickTx ∧
    decode c 0x00000220 p = .command (.submit 0x0002 0x00 p) ∧
    decode c 0x02FFFF20 p = .command (.submit 0xFFFF 0x02 p) ∧
    decode c 0x00000021 [] = .command .collect ∧
    decode c 0x00000030 [] = .command .consume ∧
    decode c 0x00000040 [] = .command .readStatus ∧
    decode c 0x00000110 [] = .rejected .reservedField ∧
    decode c 0x01000001 [] = .rejected .reservedField

/-- R96: a command word with a reserved `OP` (the ranges written out), or with a non-zero reserved field, returns
`ERR_ILLEGAL` (0xE0) and has no other effect: no register, no access to the Transceiver. -/
def Obligations.IllegalWordsAnswerErrIllegalAndDoNothing : Prop :=
  ∀ (s : State) (word : Word) (data : List Byte) (rest : List Input), offered s word data rest →
    let op := (word.extractLsb' 0 8).toNat
    (op = 0 ∨ (0x04 ≤ op ∧ op ≤ 0x0F) ∨ (0x12 ≤ op ∧ op ≤ 0x1F) ∨ (0x22 ≤ op ∧ op ≤ 0x2F) ∨
        (0x31 ≤ op ∧ op ≤ 0x3F) ∨ 0x44 ≤ op ∨
        (op = 0x01 ∧ word.extractLsb' 24 8 ≠ 0) ∨
        (op ≠ 0x01 ∧ op ≠ 0x20 ∧ word.extractLsb' 8 24 ≠ 0)) →
    ∃ t, step s = .next t ∧ answers s t 0x000000E0 [] ∧ sameRegisters s t ∧ sameTransceiver s t ∧
      t.cfg = s.cfg ∧ t.held = none ∧ t.inputs = rest

/-! ## Frames (20_memory.md) -/

/-- R73, R74: the frame layout: sender and receiver little-endian at offsets 0 and 2, the counter at 4, the type at 5, the
payload from 6 on, no padding; and the accessors of R17 read exactly those fields of any frame at least as long as a
header. -/
def Obligations.FrameLayoutIsLittleEndianAtTheOffsetsOfR74 : Prop :=
  (∀ (snd rcv : Addr) (seq type : Byte) (payload : List Byte),
    makeFrame snd rcv seq type payload =
      [snd.extractLsb' 0 8, snd.extractLsb' 8 8, rcv.extractLsb' 0 8, rcv.extractLsb' 8 8, seq, type] ++ payload) ∧
  (∀ (b0 b1 b2 b3 b4 b5 : Byte) (payload : List Byte),
    let f : Frame := [b0, b1, b2, b3, b4, b5] ++ payload
    senderOf f = b1 ++ b0 ∧ receiverOf f = b3 ++ b2 ∧ seqOf f = b4 ∧ typeOf f = b5 ∧ payloadOf f = payload)

/-! ## One step (20_memory.md R71, R72; 70_reset_and_hazards.md R250) -/

/-- R71, R95: a command the interface offers while none is in progress is decoded and run; what is left at the interface
is the rest of the inputs. (That commands come from a list is the model's choice, log 7.) -/
def Obligations.StepRunsTheDecodedCommand : Prop :=
  ∀ (s : State) (word : Word) (data : List Byte) (rest : List Input) (i : Instr),
    offered s word data rest → decode s.cfg word data = .command i →
      step s = exec i (setInputs rest s)

/-- The two things no interface carries are refused by name, the model's reading of R90, R97 and R11 (logs 8 and 9): the word
of a well-formed command with a data phase of another length, and an arriving frame that is not `FRAME_LEN` bytes long. -/
def Obligations.TransfersOfAnotherLengthAreRefusedByName : Prop :=
  (∀ (s : State) (i : Instr) (data : List Byte) (rest : List Input), i.wellFormed s.cfg = true →
    offered s (encode i).1 data rest → data.length ≠ (encode i).2.length → step s = .refused .dataPhase) ∧
  (∀ (s : State) (f : Frame) (rest : List Input), s.inputs = .frame f :: rest → f.length ≠ s.cfg.frameLen →
    step s = .refused .frameLength)

/-- R72, R258: only TICK_TX starts a wait; while it waits (its Transceiver still active) a step takes no command and
writes no register, and the clock stands still. A step that meets an event of the environment (a frame, a loss, an
answer), during the hold or not, writes no register, keeps the hold and does to the Transceiver's side what the event says.
(That a step of the hold is one look at the Transceiver, and that events come from a list, is the model's reading, logs 5
and 7; losses are log 25; that answers are kept in lists is log 3, and that a new answer waits behind the unused ones is the
model's choice, log 26.) -/
def Obligations.HeldTickTxTakesNoCommandAndWritesNothing : Prop :=
  (∀ (i : Instr) (s t : State), exec i s = .next t → t.held ≠ s.held → i = .tickTx) ∧
  (∀ (s : State) (h : Hold), s.held = some h → txActiveAnswer s = true →
    (s.inputs = [] ∨ ∃ word data rest, s.inputs = .command word data :: rest) →
    ∃ t, step s = .next t ∧ sameRegisters s t ∧ t.held = some h ∧ t.inputs = s.inputs ∧
      t.responses = s.responses ∧ t.xlog = s.xlog ∧ t.rxq = s.rxq ∧ t.cfg = s.cfg) ∧
  (∀ (s : State) (e : Input) (rest : List Input), s.inputs = e :: rest → IsEvent s.cfg e →
    ∃ t, step s = .next t ∧ sameRegisters s t ∧ t.held = s.held ∧ t.inputs = rest ∧
      t.responses = s.responses ∧ t.xlog = s.xlog ∧ t.draws = s.draws ∧ t.cfg = s.cfg ∧
      (match e with
        | .frame f => t.rxq = s.rxq ++ [f] ∧ t.carrier = s.carrier ∧ t.txAnswers = s.txAnswers
        | .lose place => t.rxq = s.rxq.eraseIdx place ∧ t.carrier = s.carrier ∧ t.txAnswers = s.txAnswers
        | .carrier b => t.rxq = s.rxq ∧ t.carrier = s.carrier ++ [b] ∧ t.txAnswers = s.txAnswers
        | .txActive b => t.rxq = s.rxq ∧ t.carrier = s.carrier ∧ t.txAnswers = s.txAnswers ++ [b]
        | .command _ _ => False
        | .reset => False))

/-- R162, R159: when the Transceiver reports completion the held TICK_TX ends: an eligible one leaves
`WAITING_FOR_ACK` with the deadline `TICK +8 ACK_TIMEOUT`, a stand-alone ack leaves the transaction alone; the result is
given now, and the clock is as it was. (The hold as steps is the model's reading, log 5.) -/
def Obligations.HeldTickTxEndsWhenTheBurstCompletes : Prop :=
  ∀ (s : State) (h : Hold), s.held = some h → txActiveAnswer s = false →
    (s.inputs = [] ∨ ∃ word data rest, s.inputs = .command word data :: rest) →
    ∃ t, step s = .next t ∧ t.held = none ∧ t.inputs = s.inputs ∧
      t.txState = (if h.elig then .waitingForAck else s.txState) ∧
      t.ackDeadline = (if h.elig then s.tick + s.cfg.ackTimeout else s.ackDeadline) ∧
      t.retryDeadline = s.retryDeadline ∧ t.tick = s.tick ∧ sameIdentity s t ∧ sameSubmission s t ∧
      sameAck s t ∧ sameInbound s t ∧ t.xlog = s.xlog ∧ t.rxq = s.rxq ∧ t.cfg = s.cfg ∧
      answers s t (resultWord .ok h.flags.data) []

/-- R250: reset sets every register to its value of R50 and ends a command in progress without its remaining effects; it
does not touch the Transceiver, and with nothing more to come the MAC then waits. -/
def Obligations.ResetSetsEveryRegisterAndSparesTheTransceiver : Prop :=
  ∀ (s : State) (rest : List Input), s.inputs = .reset :: rest →
    ∃ t, step s = .next t ∧ t.myAddr = 0 ∧ t.addrSet = false ∧ t.tick = 0 ∧ t.seqCtr = 0 ∧ t.txState = .idle ∧
      t.txFrame = List.replicate (6 + s.cfg.payloadLen) 0 ∧ t.txSeq = 0 ∧ t.ackDeadline = 0 ∧ t.retryDeadline = 0 ∧
      t.ackStaged = false ∧ t.ackDst = 0 ∧ t.ackSeq = 0 ∧ t.rxFull = false ∧
      t.rxFrame = List.replicate (6 + s.cfg.payloadLen) 0 ∧ t.held = none ∧ sameTransceiver s t ∧
      t.cfg = s.cfg ∧ t.responses = s.responses ∧ t.inputs = rest ∧ (rest = [] → step t = .next t)

/-- R251, R34, R33: only reset clears `ADDR_SET` or changes an address that is set. -/
def Obligations.OnlyResetUnsetsOrChangesASetAddress : Prop :=
  ∀ (s t : State), step s = .next t → s.addrSet = true →
    (t.addrSet = true ∧ t.myAddr = s.myAddr) ∨ ∃ rest, s.inputs = .reset :: rest

/-- R233: the receive queue is first in, first out: a step takes frames only from its head, in order, and on record, or adds
one arriving frame at its end, or the Transceiver itself loses one; so a frame once popped is not returned again. (That
frames arrive and are lost between commands, from a list, is the model's reading, logs 4, 7 and 25.) -/
def Obligations.ReceiveQueueIsFirstInFirstOut : Prop :=
  ∀ (s t : State), step s = .next t →
    (∃ n, t.rxq = s.rxq.drop n ∧
      popped t.xlog = popped s.xlog ++ s.rxq.take n) ∨
    (∃ f rest, s.inputs = .frame f :: rest ∧ f.length = s.cfg.frameLen ∧ t.rxq = s.rxq ++ [f] ∧ t.xlog = s.xlog) ∨
    (∃ place rest, s.inputs = .lose place :: rest ∧ t.rxq = s.rxq.eraseIdx place ∧ t.xlog = s.xlog)

/-! ## Every command (30_encoding.md R99, R100; 60_exceptions.md R220 to R223) -/

/-- R220: no command faults or is refused: every command, in every state, answers a next state. -/
def Obligations.EveryCommandAnswersANextState : Prop :=
  ∀ (i : Instr) (s : State), ∃ t, exec i s = .next t

/-- R99, R100: a command gives one result, whose code is one that R100 lists for it, with a data phase only for CONSUME
with `PACKET`, which is `RX_FRAME`; a TICK_TX that is held has given none yet (R72). -/
def Obligations.EveryCommandAnswersOneResultOfItsOwnCodes : Prop :=
  ∀ (i : Instr) (s t : State), exec i s = .next t →
    (i = .tickTx ∧ t.held ≠ none ∧ t.responses = s.responses) ∨
    ∃ word phase, answers s t word phase ∧
      (phase ≠ [] → i = .consume ∧ word = 0x00000007 ∧ phase = s.rxFrame) ∧
      word.extractLsb' 0 8 ∈
        (match i with
        | .setAddress _ => [0x00, 0xE2]
        | .powerUp => [0x00]
        | .powerDown => [0x00]
        | .tickRx => [0x00, 0xE1]
        | .tickTx => [0x00, 0xE1]
        | .submit _ _ _ => [0x00, 0x01, 0xE1]
        | .collect => [0x02, 0x03, 0x04, 0x05, 0xE1]
        | .consume => [0x06, 0x07, 0xE1]
        | .readStatus => [0x00]
        | .readTimers => [0x00]
        | .readAck => [0x00]
        | .readConfig => [0x00] : List Byte)

/-- R223: while `ADDR_SET = 0` the five protocol commands return `ERR_UNCONFIGURED` (0xE1) and have no other effect, the
data phase of SUBMIT being taken with its word; the other seven never return it. -/
def Obligations.UnconfiguredProtocolCommandsAreRefusedWithNoEffect : Prop :=
  (∀ (s : State) (word : Word) (data : List Byte) (rest : List Input) (i : Instr),
    offered s word data rest → decode s.cfg word data = .command i → s.addrSet = false →
    i.opcode ∈ [.tickRx, .tickTx, .submit, .collect, .consume] →
    ∃ t, step s = .next t ∧ answers s t 0x000000E1 [] ∧ sameRegisters s t ∧ sameTransceiver s t ∧
      t.cfg = s.cfg ∧ t.held = none ∧ t.inputs = rest) ∧
  (∀ (s t : State) (i : Instr), exec i s = .next t →
    i.opcode ∈ [.setAddress, .powerUp, .powerDown, .readStatus, .readTimers, .readAck, .readConfig] →
    ∃ word, answers s t word [] ∧ word.extractLsb' 0 8 ≠ 0xE1)

/-- R45: each register is written only by the commands of its "written by" column (reset apart), and the parameters by
none (R32). The clauses on the Transceiver's side are no part of R45: that POWER_UP and POWER_DOWN keep the receive queue and
the answers to come is the model's choice, log 25; the lists of answers are log 3, the list of inputs log 7, and what is on
the record of requests log 14. -/
def Obligations.RegistersAreWrittenOnlyByTheirWriters : Prop :=
  ∀ (i : Instr) (s t : State), exec i s = .next t →
    t.cfg = s.cfg ∧ t.inputs = s.inputs ∧
    (i.opcode ≠ .setAddress → sameIdentity s t) ∧
    (i.opcode ≠ .tickRx → t.tick = s.tick ∧ t.rxq = s.rxq) ∧
    (i.opcode ∉ [.submit, .tickTx, .tickRx, .collect] → t.txState = s.txState) ∧
    (i.opcode ≠ .submit → sameSubmission s t) ∧
    (i.opcode ≠ .tickTx → sameDeadlines s t ∧ t.carrier = s.carrier) ∧
    (i.opcode ∉ [.tickRx, .tickTx] → sameAck s t) ∧
    (i.opcode ∉ [.tickRx, .consume] → sameInbound s t) ∧
    (i.opcode ∉ [.tickTx, .submit] → t.txAnswers = s.txAnswers ∧ t.draws = s.draws) ∧
    (i.opcode ∉ [.tickRx, .tickTx, .powerUp, .powerDown] → t.xlog = s.xlog)

/-! ## Configuration, power and observation (44_control.md) -/

/-- R201: SET_ADDRESS (its word: `A16` over `OP = 0x01`, `T8` zero) assigns the address once, any 16-bit value, and is
`ERR_LOCKED` (0xE2) with no effect after that. -/
def Obligations.SetAddressAssignsOnceThenIsLocked : Prop :=
  ∀ (s : State) (addr : Addr),
    decode s.cfg ((0x00 : Byte) ++ addr ++ (0x01 : Byte)) [] = .command (.setAddress addr) ∧
    (s.addrSet = false →
      ∃ t, exec (.setAddress addr) s = .next t ∧ t.myAddr = addr ∧ t.addrSet = true ∧ answers s t 0x00000000 [] ∧
        t.tick = s.tick ∧ t.txState = s.txState ∧ sameSubmission s t ∧ sameDeadlines s t ∧ sameAck s t ∧
        sameInbound s t ∧ sameTransceiver s t ∧ sameRun s t) ∧
    (s.addrSet = true →
      ∃ t, exec (.setAddress addr) s = .next t ∧ answers s t 0x000000E2 [] ∧ sameRegisters s t ∧
        sameTransceiver s t ∧ sameRun s t)

/-- R51, R202, R203: POWER_UP (0x00000002) and POWER_DOWN (0x00000003) pass through to the Transceiver, once each, and write
no register, in every state of the transaction, before SET_ADDRESS too. (That the request itself leaves the receive queue and
the answers to come as they are is the model's choice, log 25: R203 leaves them to the Transceiver.) -/
def Obligations.PowerCommandsPassThroughAndWriteNoRegister : Prop :=
  ∀ s : State,
    decode s.cfg 0x00000002 [] = .command .powerUp ∧ decode s.cfg 0x00000003 [] = .command .powerDown ∧
    (∃ t, exec .powerUp s = .next t ∧ sameRegisters s t ∧ t.xlog = s.xlog ++ [.powerUp] ∧
      answers s t 0x00000000 [] ∧ t.rxq = s.rxq ∧ t.carrier = s.carrier ∧ t.txAnswers = s.txAnswers ∧
      t.draws = s.draws ∧ sameRun s t) ∧
    (∃ t, exec .powerDown s = .next t ∧ sameRegisters s t ∧ t.xlog = s.xlog ++ [.powerDown] ∧
      answers s t 0x00000000 [] ∧ t.rxq = s.rxq ∧ t.carrier = s.carrier ∧ t.txAnswers = s.txAnswers ∧
      t.draws = s.draws ∧ sameRun s t)

/-- R204: READ_STATUS (0x00000040) answers the bits of R204, one by one, and changes nothing else. -/
def Obligations.ReadStatusAnswersTheBitsOfR204 : Prop :=
  ∀ s : State, decode s.cfg 0x00000040 [] = .command .readStatus ∧
    ∃ t word, exec .readStatus s = .next t ∧ answers s t word [] ∧
    word.extractLsb' 0 8 = 0x00 ∧
    word.extractLsb' 8 3 =
      (match s.txState with
        | .idle => 0 | .pending => 1 | .waitingForChannel => 2 | .waitingForAck => 3 | .succeeded => 4 | .timedOut => 5) ∧
    word.getLsbD 11 = s.ackStaged ∧ word.getLsbD 12 = s.rxFull ∧ word.getLsbD 13 = s.addrSet ∧
    word.extractLsb' 14 2 = 0 ∧ word.extractLsb' 16 8 = s.tick ∧ word.extractLsb' 24 8 = s.seqCtr ∧
    sameRegisters s t ∧ sameTransceiver s t ∧ sameRun s t

/-- R205, R206, R207: READ_TIMERS (0x00000041), READ_ACK (0x00000042) and READ_CONFIG (0x00000043) answer their registers at
their bits, whatever `TX_STATE` is, and change nothing else. -/
def Obligations.ReadTimersAckAndConfigAnswerTheirRegisters : Prop :=
  ∀ s : State,
    decode s.cfg 0x00000041 [] = .command .readTimers ∧ decode s.cfg 0x00000042 [] = .command .readAck ∧
    decode s.cfg 0x00000043 [] = .command .readConfig ∧
    (∃ t word, exec .readTimers s = .next t ∧ answers s t word [] ∧ word.extractLsb' 0 8 = 0x00 ∧
      word.extractLsb' 8 8 = s.txSeq ∧ word.extractLsb' 16 8 = s.ackDeadline ∧
      word.extractLsb' 24 8 = s.retryDeadline ∧ sameRegisters s t ∧ sameTransceiver s t ∧ sameRun s t) ∧
    (∃ t word, exec .readAck s = .next t ∧ answers s t word [] ∧ word.extractLsb' 0 8 = 0x00 ∧
      word.extractLsb' 8 16 = s.ackDst ∧ word.extractLsb' 24 8 = s.ackSeq ∧
      sameRegisters s t ∧ sameTransceiver s t ∧ sameRun s t) ∧
    (∃ t word, exec .readConfig s = .next t ∧ answers s t word [] ∧ word.extractLsb' 0 8 = 0x00 ∧
      word.extractLsb' 8 16 = s.myAddr ∧ word.extractLsb' 24 8 = 0 ∧
      sameRegisters s t ∧ sameTransceiver s t ∧ sameRun s t)

/-! ## The Send Coordinator (43_send_coordinator.md) -/

/-- R181: an accepted SUBMIT stamps the incremented counter and this node's address into the frame, stores receiver, type
and payload as given, and leaves the transaction `PENDING`; the result carries the stamped counter. -/
def Obligations.AcceptedSubmitStampsAndStoresTheFrame : Prop :=
  ∀ (s : State) (receiver : Addr) (type : Byte) (payload : List Byte),
    s.addrSet = true → s.txState = .idle → txActiveAnswer s = false →
    ∃ t, exec (.submit receiver type payload) s = .next t ∧ t.seqCtr = s.seqCtr + 1 ∧ t.txSeq = s.seqCtr + 1 ∧
      t.txState = .pending ∧ senderOf t.txFrame = s.myAddr ∧ receiverOf t.txFrame = receiver ∧
      seqOf t.txFrame = s.seqCtr + 1 ∧ typeOf t.txFrame = type ∧ payloadOf t.txFrame = payload ∧
      t.txFrame.length = 6 + payload.length ∧
      (∃ word, answers s t word [] ∧ word.extractLsb' 0 8 = 0x00 ∧ word.extractLsb' 8 8 = s.seqCtr + 1 ∧
        word.extractLsb' 16 16 = 0) ∧
      sameIdentity s t ∧ t.tick = s.tick ∧ sameDeadlines s t ∧ sameAck s t ∧ sameInbound s t ∧
      t.rxq = s.rxq ∧ t.carrier = s.carrier ∧ t.xlog = s.xlog ∧ sameRun s t

/-- R182: a SUBMIT while a transaction exists, or while the Transceiver still transmits, returns `BUSY` (0x01) and writes no
register: nothing is stamped and nothing is queued. -/
def Obligations.BusySubmitWritesNoRegister : Prop :=
  ∀ (s : State) (receiver : Addr) (type : Byte) (payload : List Byte),
    s.addrSet = true → (s.txState ≠ .idle ∨ txActiveAnswer s = true) →
    ∃ t, exec (.submit receiver type payload) s = .next t ∧ answers s t 0x00000001 [] ∧ sameRegisters s t ∧
      t.rxq = s.rxq ∧ t.carrier = s.carrier ∧ t.xlog = s.xlog ∧ sameRun s t

/-- R184: COLLECT (0x00000021) is refused before SET_ADDRESS; after it, it returns a terminal outcome and frees the slot, says `NO_TRANSACTION` (0x05) when there is none, and
`NOT_READY` (0x04), with no effect, while the transaction runs. -/
def Obligations.CollectReturnsTheOutcomeAndFreesTheSlot : Prop :=
  ∀ s : State, decode s.cfg 0x00000021 [] = .command .collect ∧
    (s.addrSet = false → ∃ t, exec .collect s = .next t ∧ answers s t 0x000000E1 [] ∧ sameRegisters s t ∧
      sameTransceiver s t ∧ sameRun s t) ∧
    (s.addrSet = true → ∃ t, exec .collect s = .next t ∧
      answers s t
        (match s.txState with
          | .succeeded => 0x00000002
          | .timedOut => 0x00000003
          | .idle => 0x00000005
          | .pending => 0x00000004
          | .waitingForChannel => 0x00000004
          | .waitingForAck => 0x00000004) [] ∧
      t.txState = (if s.txState = .succeeded ∨ s.txState = .timedOut then .idle else s.txState) ∧
      sameIdentity s t ∧ t.tick = s.tick ∧ sameSubmission s t ∧ sameDeadlines s t ∧ sameAck s t ∧
      sameInbound s t ∧ sameTransceiver s t ∧ sameRun s t)

/-- R186: CONSUME (0x00000030) is refused before SET_ADDRESS; after it, it hands over the whole pending frame and clears the slot, or says `EMPTY` (0x06); it does not touch the
staged ack. -/
def Obligations.ConsumeHandsOverThePendingFrame : Prop :=
  ∀ s : State, decode s.cfg 0x00000030 [] = .command .consume ∧
    (s.addrSet = false → ∃ t, exec .consume s = .next t ∧ answers s t 0x000000E1 [] ∧ sameRegisters s t ∧
      sameTransceiver s t ∧ sameRun s t) ∧
    (s.addrSet = true → ∃ t, exec .consume s = .next t ∧
      (if s.rxFull then answers s t 0x00000007 s.rxFrame else answers s t 0x00000006 []) ∧
      t.rxFull = false ∧ t.rxFrame = s.rxFrame ∧ sameIdentity s t ∧ t.tick = s.tick ∧ t.txState = s.txState ∧
      sameSubmission s t ∧ sameDeadlines s t ∧ sameAck s t ∧ sameTransceiver s t ∧ sameRun s t)

/-- R185: whatever the machine does, a terminal state changes only by COLLECT or by reset. -/
def Obligations.TerminalStatePersistsUntilCollectOrReset : Prop :=
  ∀ (s t : State), step s = .next t → s.HoldConsistent → (s.txState = .succeeded ∨ s.txState = .timedOut) →
    t.txState = s.txState ∨ (∃ rest, s.inputs = .reset :: rest) ∨
      ∃ word data rest, offered s word data rest ∧ decode s.cfg word data = .command .collect

/-- R187: an occupied inbound slot is never overwritten: as long as it stays occupied it holds the same frame. -/
def Obligations.OccupiedInboundSlotIsNeverOverwritten : Prop :=
  ∀ (s t : State), step s = .next t → s.rxFull = true → t.rxFull = true → t.rxFrame = s.rxFrame

/-! ## The Receive Drainer (41_receive_drainer.md) -/

/-- R121: every accepted TICK_RX advances the clock by one, modulo 256, whether or not it pulls a frame and whatever
`RX_FULL` is. -/
def Obligations.TickRxAdvancesTheClockByOne : Prop :=
  ∀ s : State, s.addrSet = true →
    ∃ t, exec .tickRx s = .next t ∧ t.tick.toNat = (s.tick.toNat + 1) % 256

/-- R122, R129 corner case 1, R257: with the slot occupied TICK_RX advances the clock and pulls nothing, so nothing else
changes. -/
def Obligations.TickRxPullsNothingWhileTheSlotIsFull : Prop :=
  ∀ s : State, s.addrSet = true → s.rxFull = true →
    ∃ t, exec .tickRx s = .next t ∧ t.tick = s.tick + 1 ∧
      answers s t ((0 : Byte) ++ (s.tick + 1) ++ (0 : Byte) ++ (0 : Byte)) [] ∧
      sameIdentity s t ∧ t.txState = s.txState ∧ sameSubmission s t ∧ sameDeadlines s t ∧ sameAck s t ∧
      sameInbound s t ∧ sameTransceiver s t ∧ sameRun s t

/-- R122 to R131, R135: what TICK_RX does with an empty slot, for every queue. It pulls exactly up to the first addressed
DATA frame among the first `RX_BURST_MAX` queued ones, or `RX_BURST_MAX` of them, or all there are. That DATA frame is
staged for its ack and stored whole. The transaction succeeds exactly when it waits for its ack and an addressed
acknowledgement with its counter is among the frames pulled. Nothing else changes. (The count is given in
8 bits, as it stands for every `RX_BURST_MAX` of R10, and modulo 256 above 255, the model's choice, log 18; that frames
arrive only between commands is log 4.) -/
def Obligations.TickRxDrainsUpToTheFirstDataFrame : Prop :=
  ∀ s : State, s.addrSet = true → s.rxFull = false →
    ∃ (n : Nat) (t : State), exec .tickRx s = .next t ∧
      (match (s.rxq.take s.cfg.rxBurstMax).findIdx? (isDataForMe s) with
        | some k => n = k + 1
        | none => n = min s.cfg.rxBurstMax s.rxq.length) ∧
      t.rxq = s.rxq.drop n ∧ t.xlog = s.xlog ++ (s.rxq.take n).map .pop ∧
      (match (s.rxq.take n).find? (isDataForMe s) with
        | some f => t.rxFull = true ∧ t.rxFrame = f ∧ t.ackStaged = true ∧ t.ackDst = senderOf f ∧ t.ackSeq = seqOf f
        | none => sameInbound s t ∧ sameAck s t) ∧
      t.txState =
        (if s.txState = .waitingForAck ∧ (s.rxq.take n).any (isAckForMe s) = true then .succeeded else s.txState) ∧
      t.tick = s.tick + 1 ∧
      answers s t ((0 : Byte) ++ (s.tick + 1) ++ BitVec.ofNat 8 n ++ (0 : Byte)) [] ∧
      sameIdentity s t ∧ sameSubmission s t ∧ sameDeadlines s t ∧ t.carrier = s.carrier ∧
      t.txAnswers = s.txAnswers ∧ t.draws = s.draws ∧ sameRun s t

/-- R124: a frame the filter rejects is pulled, counted and dropped, and has no other effect, wherever the loop meets it: the
loop goes on from the same state, with the frame gone from the queue and its pull on record. -/
def Obligations.ForeignFrameIsCountedAndDropped : Prop :=
  ∀ (s : State) (f : Frame) (rest : List Frame) (budget : Nat),
    s.rxFull = false → s.rxq = f :: rest → receiverOf f ≠ s.myAddr → receiverOf f ≠ s.cfg.multicastAddr →
    let u : State := { s with rxq := rest, xlog := s.xlog ++ [.pop f] }
    (drain (budget + 1) s).1 = (drain budget u).1 + 1 ∧ (drain (budget + 1) s).2 = (drain budget u).2

/-- R133, R132: an acknowledgement's sender and payload, and whether it is `ACK` or `ACK_RESP`, make no difference: TICK_RX
leaves the same registers and answers the same word. -/
def Obligations.AckPayloadSenderAndKindMakeNoDifference : Prop :=
  ∀ (s : State) (before after : List Frame) (f g : Frame),
    s.rxq = before ++ f :: after → isAckFrame f = true → isAckFrame g = true →
    receiverOf g = receiverOf f → seqOf g = seqOf f →
    ∃ t u, exec .tickRx s = .next t ∧ exec .tickRx { s with rxq := before ++ g :: after } = .next u ∧
      sameRegisters t u ∧ u.responses = t.responses

/-! ## The Transmit Attempter (42_transmit_attempter.md) -/

/-- R155: the timeout check is made on every accepted TICK_TX, by equality: the transaction is `TIMED_OUT` afterwards
exactly when it was, or when it waited for its ack and `TICK = ACK_DEADLINE`. -/
def Obligations.TickTxTimesOutExactlyAtTheDeadline : Prop :=
  ∀ s : State, s.addrSet = true →
    ∃ t, exec .tickTx s = .next t ∧ t.tick = s.tick ∧
      (t.txState = .timedOut ↔ s.txState = .timedOut ∨ (s.txState = .waitingForAck ∧ s.tick = s.ackDeadline)) ∧
      (s.txState = .waitingForAck → s.tick ≠ s.ackDeadline → t.txState = .waitingForAck)

/-- R152 corner cases 1 to 3, R163: a TICK_TX with no data to attempt and no ack to send alone asks the channel nothing;
its one effect is the timeout, if it is due, which its result reports as 0x100. -/
def Obligations.TickTxWithNothingToSendOnlyChecksTheTimeout : Prop :=
  ∀ s : State, s.addrSet = true → s.txState ≠ .pending →
    (s.txState = .waitingForChannel → s.tick ≠ s.retryDeadline) →
    (s.ackStaged = false ∨ s.cfg.standaloneAck = false) →
    ∃ t, exec .tickTx s = .next t ∧
      (if s.txState = .waitingForAck ∧ s.tick = s.ackDeadline then t.txState = .timedOut ∧ answers s t 0x00000100 []
        else t.txState = s.txState ∧ answers s t 0x00000000 []) ∧
      sameIdentity s t ∧ t.tick = s.tick ∧ sameSubmission s t ∧ sameDeadlines s t ∧ sameAck s t ∧
      sameInbound s t ∧ sameTransceiver s t ∧ sameRun s t

/-- R156, R160: an eligible TICK_TX that finds the channel busy defers the transaction to the retry tick
`TICK +8 1 +8 (TICK & BACKOFF_MASK)` and sends nothing; a staged ack stays staged; the channel is asked once. -/
def Obligations.BusyChannelDefersToTheRetryTick : Prop :=
  ∀ s : State, s.addrSet = true →
    (s.txState = .pending ∨ (s.txState = .waitingForChannel ∧ s.tick = s.retryDeadline)) → busyAnswer s = true →
    ∃ t, exec .tickTx s = .next t ∧ t.txState = .waitingForChannel ∧
      t.retryDeadline.toNat = (s.tick.toNat + 1 + (s.tick &&& s.cfg.backoffMask).toNat) % 256 ∧
      answers s t 0x00000600 [] ∧ t.xlog = s.xlog ++ [.carrierSense true] ∧ t.carrier = s.carrier.tail ∧
      t.txAnswers = s.txAnswers ∧ t.rxq = s.rxq ∧ sameIdentity s t ∧ t.tick = s.tick ∧ sameSubmission s t ∧
      t.ackDeadline = s.ackDeadline ∧ sameAck s t ∧ sameInbound s t ∧ sameRun s t

/-- R160: with the default mask 0xFC the delay is 1 + (TICK & 0xFC), between 1 and 253, so the retry tick is never the
current tick. -/
def Obligations.DefaultBackoffDelayIsBetween1And253 : Prop :=
  ∀ (c : Config) (tick : Byte), c.backoffMask = 0xFC →
    retryTick c tick - tick = 1 + (tick &&& 0xFC) ∧ 1 ≤ (retryTick c tick - tick).toNat ∧
      (retryTick c tick - tick).toNat ≤ 253 ∧ retryTick c tick ≠ tick

/-- R157, R158, R159, R79, R163: an eligible TICK_TX that finds the channel free, and whose Transceiver reports completion,
sends the staged ack first, if there is one, then `TX_FRAME`; clears the stage flag; and leaves `WAITING_FOR_ACK` with
the deadline `TICK +8 ACK_TIMEOUT`. The ack frame goes from this node to `ACK_DST`, with `ACK_SEQ`, type ACK and a zero
payload. -/
def Obligations.FreeChannelSendsTheBurstAndAwaitsTheAck : Prop :=
  ∀ s : State, s.addrSet = true →
    (s.txState = .pending ∨ (s.txState = .waitingForChannel ∧ s.tick = s.retryDeadline)) →
    busyAnswer s = false → txActiveAnswer (askBusy s) = false → s.held = none →
    ∃ t ack, exec .tickTx s = .next t ∧
      senderOf ack = s.myAddr ∧ receiverOf ack = s.ackDst ∧ seqOf ack = s.ackSeq ∧ typeOf ack = 0x01 ∧
      payloadOf ack = List.replicate s.cfg.payloadLen 0 ∧ ack.length = s.cfg.frameLen ∧
      t.xlog = s.xlog ++ [.carrierSense false] ++ (if s.ackStaged then [.send ack] else []) ++ [.send s.txFrame] ∧
      t.txState = .waitingForAck ∧ t.ackDeadline.toNat = (s.tick.toNat + s.cfg.ackTimeout.toNat) % 256 ∧
      t.ackStaged = false ∧ answers s t (if s.ackStaged then 0x00001A00 else 0x00001200) [] ∧
      t.retryDeadline = s.retryDeadline ∧ t.ackDst = s.ackDst ∧ t.ackSeq = s.ackSeq ∧ sameIdentity s t ∧
      t.tick = s.tick ∧ sameSubmission s t ∧ sameInbound s t ∧ t.rxq = s.rxq ∧ t.carrier = s.carrier.tail ∧
      t.txAnswers = s.txAnswers.tail ∧ sameRun s t

/-- R162: an eligible TICK_TX whose Transceiver is still active after the burst is held with its frames pushed, and gives no
result yet; the transaction has not moved. (The hold is a field of the model, log 5.) -/
def Obligations.UnfinishedBurstHoldsTickTx : Prop :=
  ∀ s : State, s.addrSet = true →
    (s.txState = .pending ∨ (s.txState = .waitingForChannel ∧ s.tick = s.retryDeadline)) →
    busyAnswer s = false → txActiveAnswer (askBusy s) = true →
    ∃ t h, exec .tickTx s = .next t ∧ t.held = some h ∧ h.elig = true ∧
      resultWord .ok h.flags.data = (if s.ackStaged then 0x00001A00 else 0x00001200) ∧
      t.responses = s.responses ∧ t.txState = s.txState ∧ sameDeadlines s t ∧ t.ackStaged = false ∧
      t.xlog = s.xlog ++ [.carrierSense false] ++
        (if s.ackStaged then
          [.send (makeFrame s.myAddr s.ackDst s.ackSeq 0x01 (List.replicate s.cfg.payloadLen 0))] else []) ++
        [.send s.txFrame] ∧ t.ackDst = s.ackDst ∧ t.ackSeq = s.ackSeq ∧ sameIdentity s t ∧
      t.tick = s.tick ∧ sameSubmission s t ∧ sameInbound s t ∧ t.rxq = s.rxq ∧ t.cfg = s.cfg ∧ t.inputs = s.inputs

/-- R161: a TICK_TX that is not eligible but finds an ack staged sends the ack alone when `STANDALONE_ACK` is true and the
channel is free, changing no transaction state but for a timeout that is due; on a busy channel the ack stays staged and
nothing is scheduled; when `STANDALONE_ACK` is false nothing is asked and nothing is sent. (That the command ends in its own step when
the first look finds the Transceiver done, and is held otherwise, is the model's reading of R162, log 5.) -/
def Obligations.StandaloneAckGoesOutAloneOrStaysStaged : Prop :=
  ∀ s : State, s.addrSet = true → s.ackStaged = true → s.txState ≠ .pending →
    (s.txState = .waitingForChannel → s.tick ≠ s.retryDeadline) → s.held = none →
    (s.cfg.standaloneAck = true → busyAnswer s = false →
      ∃ t h, exec .tickTx s = .next t ∧ t.ackStaged = false ∧
        t.xlog = s.xlog ++ [.carrierSense false,
          .send (makeFrame s.myAddr s.ackDst s.ackSeq 0x01 (List.replicate s.cfg.payloadLen 0))] ∧
        t.txState = (if s.txState = .waitingForAck ∧ s.tick = s.ackDeadline then .timedOut else s.txState) ∧
        resultWord .ok h.flags.data =
          (if s.txState = .waitingForAck ∧ s.tick = s.ackDeadline then 0x00000B00 else 0x00000A00) ∧
        (if txActiveAnswer (askBusy s) then t.held = some h ∧ h.elig = false ∧ t.responses = s.responses
          else t.held = none ∧ answers s t (resultWord .ok h.flags.data) []) ∧
        sameDeadlines s t ∧ sameSubmission s t ∧ t.tick = s.tick ∧ sameIdentity s t ∧ sameInbound s t ∧
        t.ackDst = s.ackDst ∧ t.ackSeq = s.ackSeq ∧ t.rxq = s.rxq ∧ t.cfg = s.cfg ∧ t.inputs = s.inputs) ∧
    (s.cfg.standaloneAck = true → busyAnswer s = true →
      ∃ t, exec .tickTx s = .next t ∧ sameAck s t ∧ t.xlog = s.xlog ++ [.carrierSense true] ∧
        (if s.txState = .waitingForAck ∧ s.tick = s.ackDeadline then
            t.txState = .timedOut ∧ answers s t 0x00000700 []
          else t.txState = s.txState ∧ answers s t 0x00000600 []) ∧
        sameDeadlines s t ∧ sameSubmission s t ∧ t.tick = s.tick ∧ sameIdentity s t ∧ sameInbound s t ∧
        t.txAnswers = s.txAnswers ∧ t.rxq = s.rxq ∧ sameRun s t) ∧
    (s.cfg.standaloneAck = false → ∃ t, exec .tickTx s = .next t ∧ sameAck s t ∧ sameTransceiver s t ∧
      sameDeadlines s t ∧ sameSubmission s t ∧ t.tick = s.tick ∧ sameIdentity s t ∧ sameInbound s t ∧ sameRun s t)

/-! ## The whole machine -/

/-- R49: every step of the machine, whatever the host and the environment do, keeps the invariants of R49, the frame
lengths of R76 and what a held TICK_TX implies. -/
def Obligations.EveryStepKeepsTheInvariants : Prop :=
  ∀ (s t : State), s.Inv → step s = .next t → t.Inv

/-- R49: the invariants hold after reset, under every parameter set. -/
def Obligations.ResetMeetsTheInvariants : Prop :=
  (∀ c : Config, (State.resetWith c).Inv) ∧ State.reset.Inv

/-- R44: `TX_STATE` changes only by the transitions of R44: by reset to `IDLE`, by a command as the table says (SUCCEEDED only
when TICK_RX pulled the matching ack), or at the end of a TICK_TX that was held for its completion. (The hold as steps is the
model's reading, log 5; commands come from a list, log 7.) -/
def Obligations.TxStateMovesOnlyByTheTransitionsOfR44 : Prop :=
  ∀ (s t : State), s.HoldConsistent → step s = .next t → t.txState ≠ s.txState →
    (∃ rest, s.inputs = .reset :: rest ∧ t.txState = .idle) ∨
    (∃ word data rest i, offered s word data rest ∧ decode s.cfg word data = .command i ∧
      TxMove i s t) ∨
    (∃ h, s.held = some h ∧ h.elig = true ∧ txActiveAnswer s = false ∧
      (s.txState = .pending ∨ (s.txState = .waitingForChannel ∧ s.tick = s.retryDeadline)) ∧
      t.txState = .waitingForAck)

/-- R90, R232, R10: no step rewrites what was already answered or sent, and no step changes a parameter. -/
def Obligations.LogsOnlyGrowAndParametersStay : Prop :=
  ∀ (s t : State), step s = .next t → t.cfg = s.cfg ∧ s.responses <+: t.responses ∧ s.xlog <+: t.xlog

/-- R165, R262, R44: a deferred transaction stays `WAITING_FOR_CHANNEL` through every step but reset and a TICK_TX at its retry
tick that finds the channel free: no other command, no frame, no answer and no stand-alone ack, held or not, moves it.
(`held` and the list of inputs are the model's, logs 5 and 7; `busyAnswer` may be a free value, log 3.) -/
def Obligations.DeferredTransactionStaysUntilAFreeChannelAtItsRetryTick : Prop :=
  ∀ (s t : State), s.txState = .waitingForChannel → (∀ h ∈ s.held, h.elig = false) → step s = .next t →
    (¬ ∃ rest, s.inputs = .reset :: rest) →
    (∀ word data rest, offered s word data rest → decode s.cfg word data = .command .tickTx →
      s.tick = s.retryDeadline → busyAnswer s = true) →
    t.txState = .waitingForChannel ∧ ∀ h ∈ t.held, h.elig = false

/-- R165, R262: busy-channel starvation has no bound: whatever commands and events come, reset apart, and however many steps
are made, a deferred transaction that finds the channel busy every time stays `WAITING_FOR_CHANNEL`; and a host that only
drives the clock and the attempts is never stopped. (The listed answers, the hold, the inputs
and the queueing of a new answer behind the unused ones are the model's, logs 3, 5, 7 and 26.) -/
def Obligations.BusyChannelStarvesTheTransactionForEver : Prop :=
  (∀ (k : Nat) (s t : State), s.txState = .waitingForChannel → (∀ h ∈ s.held, h.elig = false) →
    (∀ b ∈ s.carrier, b = true) → k ≤ s.carrier.length →
    (∀ i ∈ s.inputs, i ≠ .reset ∧ i ≠ .carrier false) →
    Sys2Proof.core.run k s = .next t → t.txState = .waitingForChannel ∧ ∀ h ∈ t.held, h.elig = false) ∧
  (∀ (k : Nat) (s : State), s.addrSet = true → s.txState = .waitingForChannel → s.held = none →
    (∀ b ∈ s.carrier, b = true) → s.inputs.length = k → k ≤ s.carrier.length →
    (∀ i ∈ s.inputs, i = .command 0x00000010 [] ∨ i = .command 0x00000011 []) →
    ∃ t, Sys2Proof.core.run k s = .next t ∧ t.txState = .waitingForChannel ∧ t.held = none ∧ t.inputs = [])

/-- R155, R159, R167: bounded liveness of the retry timer: with no ack to send and no frame arriving, a host that issues one
TICK_RX and one TICK_TX in turn sees the transaction time out after exactly as many rounds as the deadline is ahead, 256
where it equals the clock now. (The list of inputs is the model's, log 7.) -/
def Obligations.UnansweredTransactionTimesOutAfterItsTicks : Prop :=
  ∀ (d : Nat) (s : State), s.addrSet = true → s.txState = .waitingForAck → s.held = none → s.ackStaged = false →
    s.rxq = [] → 1 ≤ d → d ≤ 256 → s.ackDeadline = s.tick + BitVec.ofNat 8 d →
    s.inputs = (List.replicate d [Input.command 0x00000010 [], Input.command 0x00000011 []]).flatten →
    ∃ t, Sys2Proof.core.run (2 * d) s = .next t ∧ t.txState = .timedOut ∧ t.tick = s.ackDeadline ∧
      ∃ u, Sys2Proof.core.run (2 * d - 1) s = .next u ∧ u.txState = .waitingForAck
end

