-- ==== Sys2Proof/Laws/Bits.lean ====
section
/-! SUPPORT. Bit fields of a concatenation. -/

namespace Sys2Proof

theorem extract_append_low {v w : Nat} (a : BitVec v) (b : BitVec w) (k n : Nat) (h : k + n ≤ w) :
    (a ++ b).extractLsb' k n = b.extractLsb' k n := by
  apply BitVec.eq_of_getLsbD_eq
  intro i hi
  simp [BitVec.getLsbD_append, show k + i < w by omega]

theorem extract_append_high {v w : Nat} (a : BitVec v) (b : BitVec w) (k n : Nat) :
    (a ++ b).extractLsb' (w + k) n = a.extractLsb' k n := by
  apply BitVec.eq_of_getLsbD_eq
  intro i hi
  simp [BitVec.getLsbD_append, show ¬ (w + k + i < w) by omega, show w + k + i - w = k + i by omega]

theorem extract_all {w : Nat} (b : BitVec w) : b.extractLsb' 0 w = b := by
  apply BitVec.eq_of_getLsbD_eq
  intro i hi
  simp [hi]

/-- A word is the concatenation of its fields. -/
theorem append_of_fields (w : Word) :
    (w.extractLsb' 24 8 ++ w.extractLsb' 8 16 ++ w.extractLsb' 0 8 : BitVec (8 + 16 + 8)) = w := by
  apply BitVec.eq_of_toNat_eq
  have := w.isLt
  simp only [BitVec.toNat_append, BitVec.extractLsb'_toNat, Nat.shiftRight_eq_div_pow]
  rw [← Nat.shiftLeft_add_eq_or_of_lt (by omega), ← Nat.shiftLeft_add_eq_or_of_lt (by omega)]
  simp only [Nat.shiftLeft_eq]
  omega

end Sys2Proof
end

