-- ==== Sys2Proof/Laws/Decode.lean ====
section
/-! SUPPORT. What the decoder can answer, said once, and the fields of a command word. -/

namespace Sys2Proof

theorem opField_commandWord (op : Opcode) (a : Addr) (t : Byte) : opField (commandWord op a t) = op.code :=
  (extract_append_low (t ++ a) op.code 0 8 (by omega)).trans (extract_all _)

theorem a16Field_commandWord (op : Opcode) (a : Addr) (t : Byte) : a16Field (commandWord op a t) = a :=
  (extract_append_high (t ++ a) op.code 0 16).trans
    ((extract_append_low t a 0 16 (by omega)).trans (extract_all _))

theorem t8Field_commandWord (op : Opcode) (a : Addr) (t : Byte) : t8Field (commandWord op a t) = t :=
  (extract_append_high (t ++ a) op.code 16 8).trans
    ((extract_append_high t a 0 8).trans (extract_all _))

theorem commandWord_of_fields (op : Opcode) (w : Word) (h : opField w = op.code) :
    commandWord op (a16Field w) (t8Field w) = w := by
  unfold commandWord
  rw [← h]
  exact append_of_fields w

@[simp] theorem ofByte_code (op : Opcode) : Opcode.ofByte op.code = some op := by cases op <;> rfl

theorem code_of_ofByte (b : Byte) (op : Opcode) (h : Opcode.ofByte b = some op) : b = op.code := by
  unfold Opcode.ofByte at h
  split at h <;> first | (cases h; apply BitVec.eq_of_toNat_eq; assumption) | cases h

@[simp] theorem opcode_assemble (op : Opcode) (a : Addr) (t : Byte) (p : List Byte) :
    (op.assemble a t p).opcode = op := by cases op <;> rfl

/-- The reserved field of format N is `A16` and `T8` together (R92). -/
theorem reservedClear_n (w : Word) : Format.n.reservedClear w = true ↔ a16Field w = 0 ∧ t8Field w = 0 := by
  simp [Format.reservedClear, a16Field, t8Field, ← BitVec.toNat_inj, BitVec.extractLsb'_toNat,
    Nat.shiftRight_eq_div_pow]
  have := w.isLt
  omega

/-- Everything an accepted transfer says. -/
theorem decode_command {c : Config} {w : Word} {d : List Byte} {i : Instr} (h : decode c w d = .command i) :
    ∃ op : Opcode, opField w = op.code ∧ op.format.reservedClear w = true ∧ d.length = op.dataLen c ∧
      i = op.assemble (a16Field w) (t8Field w) d := by
  unfold decode at h
  split at h
  · cases h
  · rename_i op ho
    split at h
    · rename_i hr
      split at h
      · rename_i hd
        cases h
        exact ⟨op, code_of_ofByte _ _ ho, hr, by simpa using hd, rfl⟩
      · cases h
    · cases h

/-- When a transfer is accepted. -/
theorem decode_of_fields {c : Config} {w : Word} {d : List Byte} (op : Opcode) (h1 : opField w = op.code)
    (h2 : op.format.reservedClear w = true) (h3 : d.length = op.dataLen c) :
    decode c w d = .command (op.assemble (a16Field w) (t8Field w) d) := by
  simp [decode, h1, h2, h3]

end Sys2Proof
end

