-- ==== Sys2Proof/Laws/Frames.lean ====
section
/-! SUPPORT. Frame buffers: what `MakeFrame` lays out and what the accessors read (20_memory.md R73, R74). -/

namespace Sys2Proof.Machine

theorem lowByte_eq (a : Addr) : a.setWidth 8 = a.extractLsb' 0 8 := by
  apply BitVec.eq_of_toNat_eq
  simp [BitVec.extractLsb'_toNat]

theorem highByte_eq (a : Addr) : BitVec.ofNat 8 (a.toNat / 256) = a.extractLsb' 8 8 := by
  apply BitVec.eq_of_toNat_eq
  simp [BitVec.extractLsb'_toNat, Nat.shiftRight_eq_div_pow]

theorem append_halves (a : Addr) : (a.extractLsb' 8 8 ++ a.extractLsb' 0 8 : BitVec (8 + 8)) = a := by
  apply BitVec.eq_of_toNat_eq
  have := a.isLt
  simp only [BitVec.toNat_append, BitVec.extractLsb'_toNat, Nat.shiftRight_eq_div_pow]
  rw [← Nat.shiftLeft_add_eq_or_of_lt (by omega)]
  simp only [Nat.shiftLeft_eq]
  omega

theorem littleEndian_two (a b : Byte) : (BitVec.ofNat 16 (a.toNat + 256 * b.toNat) : Addr) = b ++ a := by
  apply BitVec.eq_of_toNat_eq
  have := a.isLt
  have := b.isLt
  rw [BitVec.toNat_append, ← Nat.shiftLeft_add_eq_or_of_lt (by omega), Nat.shiftLeft_eq, BitVec.toNat_ofNat]
  omega

/-- The bytes of a made frame, in offset order. -/
theorem makeFrame_bytes (snd rcv : Addr) (seq type : Byte) (payload : List Byte) :
    makeFrame snd rcv seq type payload =
      snd.extractLsb' 0 8 :: snd.extractLsb' 8 8 :: rcv.extractLsb' 0 8 :: rcv.extractLsb' 8 8 :: seq :: type ::
        payload := by
  simp [makeFrame, memWrite, List.replicate, lowByte_eq, highByte_eq]

/-- What the accessors read of a frame with a whole header. -/
theorem accessors_of_bytes (b0 b1 b2 b3 b4 b5 : Byte) (payload : List Byte) :
    senderOf (b0 :: b1 :: b2 :: b3 :: b4 :: b5 :: payload) = b1 ++ b0 ∧
      receiverOf (b0 :: b1 :: b2 :: b3 :: b4 :: b5 :: payload) = b3 ++ b2 ∧
      seqOf (b0 :: b1 :: b2 :: b3 :: b4 :: b5 :: payload) = b4 ∧
      typeOf (b0 :: b1 :: b2 :: b3 :: b4 :: b5 :: payload) = b5 ∧
      payloadOf (b0 :: b1 :: b2 :: b3 :: b4 :: b5 :: payload) = payload := by
  simp [senderOf, receiverOf, seqOf, typeOf, payloadOf, memRead, byteAt, littleEndian_two]

/-- Everything the accessors read of a made frame. -/
@[simp] theorem makeFrame_fields (snd rcv : Addr) (seq type : Byte) (payload : List Byte) :
    senderOf (makeFrame snd rcv seq type payload) = snd ∧
      receiverOf (makeFrame snd rcv seq type payload) = rcv ∧
      seqOf (makeFrame snd rcv seq type payload) = seq ∧
      typeOf (makeFrame snd rcv seq type payload) = type ∧
      payloadOf (makeFrame snd rcv seq type payload) = payload ∧
      (makeFrame snd rcv seq type payload).length = 6 + payload.length := by
  obtain ⟨h1, h2, h3, h4, h5⟩ := accessors_of_bytes (snd.extractLsb' 0 8) (snd.extractLsb' 8 8)
    (rcv.extractLsb' 0 8) (rcv.extractLsb' 8 8) seq type payload
  rw [makeFrame_bytes]
  refine ⟨h1.trans (append_halves snd), h2.trans (append_halves rcv), h3, h4, h5, ?_⟩
  simp only [List.length_cons]
  omega

end Sys2Proof.Machine
end

