-- ==== Sys2Proof/Laws/PerInstr.lean ====
section
/-! SUPPORT. One lemma per command: its encoding carries its opcode, and it is well formed exactly when its data phase
has the length its opcode fixes (30_encoding.md R91, R97). -/

namespace Sys2Proof.Laws.OpcodeField

/-- The word of a command carries the opcode of R94 in its `OP` field, and well-formedness is the length of the data
phase. -/
def Statement (i : Instr) : Prop :=
  opField (encode i).1 = i.opcode.code ∧
    ∀ c : Config, i.wellFormed c = ((encode i).2.length == i.opcode.dataLen c)

theorem setAddress (addr : Addr) : Statement (.setAddress addr) :=
  ⟨opField_commandWord _ _ _, fun _ => rfl⟩

theorem powerUp : Statement (.powerUp) :=
  ⟨opField_commandWord _ _ _, fun _ => rfl⟩

theorem powerDown : Statement (.powerDown) :=
  ⟨opField_commandWord _ _ _, fun _ => rfl⟩

theorem tickRx : Statement (.tickRx) :=
  ⟨opField_commandWord _ _ _, fun _ => rfl⟩

theorem tickTx : Statement (.tickTx) :=
  ⟨opField_commandWord _ _ _, fun _ => rfl⟩

theorem submit (receiver : Addr) (type : Byte) (payload : List Byte) : Statement (.submit receiver type payload) :=
  ⟨opField_commandWord _ _ _, fun _ => rfl⟩

theorem collect : Statement (.collect) :=
  ⟨opField_commandWord _ _ _, fun _ => rfl⟩

theorem consume : Statement (.consume) :=
  ⟨opField_commandWord _ _ _, fun _ => rfl⟩

theorem readStatus : Statement (.readStatus) :=
  ⟨opField_commandWord _ _ _, fun _ => rfl⟩

theorem readTimers : Statement (.readTimers) :=
  ⟨opField_commandWord _ _ _, fun _ => rfl⟩

theorem readAck : Statement (.readAck) :=
  ⟨opField_commandWord _ _ _, fun _ => rfl⟩

theorem readConfig : Statement (.readConfig) :=
  ⟨opField_commandWord _ _ _, fun _ => rfl⟩

end Sys2Proof.Laws.OpcodeField
end

