-- ==== Sys2Proof/Laws/State.lean ====
section
/-! SUPPORT. What each named update of the state does to each field: one lemma per update, one clause per field, so
that no later proof unfolds a record update. -/

namespace Sys2Proof.Machine

@[simp] theorem respondWith_fields (rc : ResultCode) (data : BitVec 24) (phase : List Byte) (s : State) :
    (respondWith rc data phase s).cfg = s.cfg ∧ (respondWith rc data phase s).myAddr = s.myAddr ∧
    (respondWith rc data phase s).addrSet = s.addrSet ∧ (respondWith rc data phase s).tick = s.tick ∧
    (respondWith rc data phase s).seqCtr = s.seqCtr ∧ (respondWith rc data phase s).txState = s.txState ∧
    (respondWith rc data phase s).txFrame = s.txFrame ∧ (respondWith rc data phase s).txSeq = s.txSeq ∧
    (respondWith rc data phase s).ackDeadline = s.ackDeadline ∧
    (respondWith rc data phase s).retryDeadline = s.retryDeadline ∧
    (respondWith rc data phase s).ackStaged = s.ackStaged ∧ (respondWith rc data phase s).ackDst = s.ackDst ∧
    (respondWith rc data phase s).ackSeq = s.ackSeq ∧ (respondWith rc data phase s).rxFull = s.rxFull ∧
    (respondWith rc data phase s).rxFrame = s.rxFrame ∧ (respondWith rc data phase s).held = s.held ∧
    (respondWith rc data phase s).rxq = s.rxq ∧ (respondWith rc data phase s).carrier = s.carrier ∧
    (respondWith rc data phase s).txAnswers = s.txAnswers ∧ (respondWith rc data phase s).draws = s.draws ∧
    (respondWith rc data phase s).xlog = s.xlog ∧ (respondWith rc data phase s).inputs = s.inputs ∧
    (respondWith rc data phase s).responses = s.responses ++ [⟨resultWord rc data, phase⟩] := by
  refine ⟨?_, ?_, ?_, ?_, ?_, ?_, ?_, ?_, ?_, ?_, ?_, ?_, ?_, ?_, ?_, ?_, ?_, ?_, ?_, ?_, ?_, ?_, ?_⟩ <;> rfl

@[simp] theorem respond_fields (rc : ResultCode) (s : State) :
    (respond rc s).cfg = s.cfg ∧ (respond rc s).myAddr = s.myAddr ∧ (respond rc s).addrSet = s.addrSet ∧
    (respond rc s).tick = s.tick ∧ (respond rc s).seqCtr = s.seqCtr ∧ (respond rc s).txState = s.txState ∧
    (respond rc s).txFrame = s.txFrame ∧ (respond rc s).txSeq = s.txSeq ∧
    (respond rc s).ackDeadline = s.ackDeadline ∧ (respond rc s).retryDeadline = s.retryDeadline ∧
    (respond rc s).ackStaged = s.ackStaged ∧ (respond rc s).ackDst = s.ackDst ∧
    (respond rc s).ackSeq = s.ackSeq ∧ (respond rc s).rxFull = s.rxFull ∧ (respond rc s).rxFrame = s.rxFrame ∧
    (respond rc s).held = s.held ∧ (respond rc s).rxq = s.rxq ∧ (respond rc s).carrier = s.carrier ∧
    (respond rc s).txAnswers = s.txAnswers ∧ (respond rc s).draws = s.draws ∧ (respond rc s).xlog = s.xlog ∧
    (respond rc s).inputs = s.inputs ∧ (respond rc s).responses = s.responses ++ [⟨resultWord rc 0, []⟩] := by
  refine ⟨?_, ?_, ?_, ?_, ?_, ?_, ?_, ?_, ?_, ?_, ?_, ?_, ?_, ?_, ?_, ?_, ?_, ?_, ?_, ?_, ?_, ?_, ?_⟩ <;> rfl

@[simp] theorem xSend_fields (f : Frame) (s : State) :
    (xSend f s).cfg = s.cfg ∧ (xSend f s).myAddr = s.myAddr ∧ (xSend f s).addrSet = s.addrSet ∧
    (xSend f s).tick = s.tick ∧ (xSend f s).seqCtr = s.seqCtr ∧ (xSend f s).txState = s.txState ∧
    (xSend f s).txFrame = s.txFrame ∧ (xSend f s).txSeq = s.txSeq ∧ (xSend f s).ackDeadline = s.ackDeadline ∧
    (xSend f s).retryDeadline = s.retryDeadline ∧ (xSend f s).ackStaged = s.ackStaged ∧
    (xSend f s).ackDst = s.ackDst ∧ (xSend f s).ackSeq = s.ackSeq ∧ (xSend f s).rxFull = s.rxFull ∧
    (xSend f s).rxFrame = s.rxFrame ∧ (xSend f s).held = s.held ∧ (xSend f s).rxq = s.rxq ∧
    (xSend f s).carrier = s.carrier ∧ (xSend f s).txAnswers = s.txAnswers ∧ (xSend f s).draws = s.draws ∧
    (xSend f s).xlog = s.xlog ++ [.send f] ∧ (xSend f s).inputs = s.inputs ∧
    (xSend f s).responses = s.responses := by
  refine ⟨?_, ?_, ?_, ?_, ?_, ?_, ?_, ?_, ?_, ?_, ?_, ?_, ?_, ?_, ?_, ?_, ?_, ?_, ?_, ?_, ?_, ?_, ?_⟩ <;> rfl

@[simp] theorem xPowerUp_fields (s : State) :
    (xPowerUp s).cfg = s.cfg ∧ (xPowerUp s).myAddr = s.myAddr ∧ (xPowerUp s).addrSet = s.addrSet ∧
    (xPowerUp s).tick = s.tick ∧ (xPowerUp s).seqCtr = s.seqCtr ∧ (xPowerUp s).txState = s.txState ∧
    (xPowerUp s).txFrame = s.txFrame ∧ (xPowerUp s).txSeq = s.txSeq ∧
    (xPowerUp s).ackDeadline = s.ackDeadline ∧ (xPowerUp s).retryDeadline = s.retryDeadline ∧
    (xPowerUp s).ackStaged = s.ackStaged ∧ (xPowerUp s).ackDst = s.ackDst ∧ (xPowerUp s).ackSeq = s.ackSeq ∧
    (xPowerUp s).rxFull = s.rxFull ∧ (xPowerUp s).rxFrame = s.rxFrame ∧ (xPowerUp s).held = s.held ∧
    (xPowerUp s).rxq = s.rxq ∧ (xPowerUp s).carrier = s.carrier ∧ (xPowerUp s).txAnswers = s.txAnswers ∧
    (xPowerUp s).draws = s.draws ∧ (xPowerUp s).xlog = s.xlog ++ [.powerUp] ∧ (xPowerUp s).inputs = s.inputs ∧
    (xPowerUp s).responses = s.responses := by
  refine ⟨?_, ?_, ?_, ?_, ?_, ?_, ?_, ?_, ?_, ?_, ?_, ?_, ?_, ?_, ?_, ?_, ?_, ?_, ?_, ?_, ?_, ?_, ?_⟩ <;> rfl

@[simp] theorem xPowerDown_fields (s : State) :
    (xPowerDown s).cfg = s.cfg ∧ (xPowerDown s).myAddr = s.myAddr ∧ (xPowerDown s).addrSet = s.addrSet ∧
    (xPowerDown s).tick = s.tick ∧ (xPowerDown s).seqCtr = s.seqCtr ∧ (xPowerDown s).txState = s.txState ∧
    (xPowerDown s).txFrame = s.txFrame ∧ (xPowerDown s).txSeq = s.txSeq ∧
    (xPowerDown s).ackDeadline = s.ackDeadline ∧ (xPowerDown s).retryDeadline = s.retryDeadline ∧
    (xPowerDown s).ackStaged = s.ackStaged ∧ (xPowerDown s).ackDst = s.ackDst ∧
    (xPowerDown s).ackSeq = s.ackSeq ∧ (xPowerDown s).rxFull = s.rxFull ∧ (xPowerDown s).rxFrame = s.rxFrame ∧
    (xPowerDown s).held = s.held ∧ (xPowerDown s).rxq = s.rxq ∧ (xPowerDown s).carrier = s.carrier ∧
    (xPowerDown s).txAnswers = s.txAnswers ∧ (xPowerDown s).draws = s.draws ∧
    (xPowerDown s).xlog = s.xlog ++ [.powerDown] ∧ (xPowerDown s).inputs = s.inputs ∧
    (xPowerDown s).responses = s.responses := by
  refine ⟨?_, ?_, ?_, ?_, ?_, ?_, ?_, ?_, ?_, ?_, ?_, ?_, ?_, ?_, ?_, ?_, ?_, ?_, ?_, ?_, ?_, ?_, ?_⟩ <;> rfl

@[simp] theorem xPop_fields (f : Frame) (rest : List Frame) (s : State) :
    (xPop f rest s).cfg = s.cfg ∧ (xPop f rest s).myAddr = s.myAddr ∧ (xPop f rest s).addrSet = s.addrSet ∧
    (xPop f rest s).tick = s.tick ∧ (xPop f rest s).seqCtr = s.seqCtr ∧ (xPop f rest s).txState = s.txState ∧
    (xPop f rest s).txFrame = s.txFrame ∧ (xPop f rest s).txSeq = s.txSeq ∧
    (xPop f rest s).ackDeadline = s.ackDeadline ∧ (xPop f rest s).retryDeadline = s.retryDeadline ∧
    (xPop f rest s).ackStaged = s.ackStaged ∧ (xPop f rest s).ackDst = s.ackDst ∧
    (xPop f rest s).ackSeq = s.ackSeq ∧ (xPop f rest s).rxFull = s.rxFull ∧
    (xPop f rest s).rxFrame = s.rxFrame ∧ (xPop f rest s).held = s.held ∧ (xPop f rest s).rxq = rest ∧
    (xPop f rest s).carrier = s.carrier ∧ (xPop f rest s).txAnswers = s.txAnswers ∧
    (xPop f rest s).draws = s.draws ∧ (xPop f rest s).xlog = s.xlog ++ [.pop f] ∧
    (xPop f rest s).inputs = s.inputs ∧ (xPop f rest s).responses = s.responses := by
  refine ⟨?_, ?_, ?_, ?_, ?_, ?_, ?_, ?_, ?_, ?_, ?_, ?_, ?_, ?_, ?_, ?_, ?_, ?_, ?_, ?_, ?_, ?_, ?_⟩ <;> rfl

@[simp] theorem applyReset_fields (s : State) :
    (applyReset s).cfg = s.cfg ∧ (applyReset s).myAddr = 0 ∧ (applyReset s).addrSet = false ∧
    (applyReset s).tick = 0 ∧ (applyReset s).seqCtr = 0 ∧ (applyReset s).txState = .idle ∧
    (applyReset s).txFrame = List.replicate s.cfg.frameLen 0 ∧ (applyReset s).txSeq = 0 ∧
    (applyReset s).ackDeadline = 0 ∧ (applyReset s).retryDeadline = 0 ∧ (applyReset s).ackStaged = false ∧
    (applyReset s).ackDst = 0 ∧ (applyReset s).ackSeq = 0 ∧ (applyReset s).rxFull = false ∧
    (applyReset s).rxFrame = List.replicate s.cfg.frameLen 0 ∧ (applyReset s).held = none ∧
    (applyReset s).rxq = s.rxq ∧ (applyReset s).carrier = s.carrier ∧ (applyReset s).txAnswers = s.txAnswers ∧
    (applyReset s).draws = s.draws ∧ (applyReset s).xlog = s.xlog ∧ (applyReset s).inputs = s.inputs ∧
    (applyReset s).responses = s.responses := by
  refine ⟨?_, ?_, ?_, ?_, ?_, ?_, ?_, ?_, ?_, ?_, ?_, ?_, ?_, ?_, ?_, ?_, ?_, ?_, ?_, ?_, ?_, ?_, ?_⟩ <;> rfl

@[simp] theorem clockStep_fields (s : State) :
    (clockStep s).cfg = s.cfg ∧ (clockStep s).myAddr = s.myAddr ∧ (clockStep s).addrSet = s.addrSet ∧
    (clockStep s).tick = s.tick + 1 ∧ (clockStep s).seqCtr = s.seqCtr ∧ (clockStep s).txState = s.txState ∧
    (clockStep s).txFrame = s.txFrame ∧ (clockStep s).txSeq = s.txSeq ∧
    (clockStep s).ackDeadline = s.ackDeadline ∧ (clockStep s).retryDeadline = s.retryDeadline ∧
    (clockStep s).ackStaged = s.ackStaged ∧ (clockStep s).ackDst = s.ackDst ∧
    (clockStep s).ackSeq = s.ackSeq ∧ (clockStep s).rxFull = s.rxFull ∧ (clockStep s).rxFrame = s.rxFrame ∧
    (clockStep s).held = s.held ∧ (clockStep s).rxq = s.rxq ∧ (clockStep s).carrier = s.carrier ∧
    (clockStep s).txAnswers = s.txAnswers ∧ (clockStep s).draws = s.draws ∧ (clockStep s).xlog = s.xlog ∧
    (clockStep s).inputs = s.inputs ∧ (clockStep s).responses = s.responses := by
  refine ⟨?_, ?_, ?_, ?_, ?_, ?_, ?_, ?_, ?_, ?_, ?_, ?_, ?_, ?_, ?_, ?_, ?_, ?_, ?_, ?_, ?_, ?_, ?_⟩ <;> rfl

@[simp] theorem acceptData_fields (f : Frame) (s : State) :
    (acceptData f s).cfg = s.cfg ∧ (acceptData f s).myAddr = s.myAddr ∧ (acceptData f s).addrSet = s.addrSet ∧
    (acceptData f s).tick = s.tick ∧ (acceptData f s).seqCtr = s.seqCtr ∧
    (acceptData f s).txState = s.txState ∧ (acceptData f s).txFrame = s.txFrame ∧
    (acceptData f s).txSeq = s.txSeq ∧ (acceptData f s).ackDeadline = s.ackDeadline ∧
    (acceptData f s).retryDeadline = s.retryDeadline ∧ (acceptData f s).ackStaged = true ∧
    (acceptData f s).ackDst = senderOf f ∧ (acceptData f s).ackSeq = seqOf f ∧
    (acceptData f s).rxFull = true ∧ (acceptData f s).rxFrame = f ∧ (acceptData f s).held = s.held ∧
    (acceptData f s).rxq = s.rxq ∧ (acceptData f s).carrier = s.carrier ∧
    (acceptData f s).txAnswers = s.txAnswers ∧ (acceptData f s).draws = s.draws ∧
    (acceptData f s).xlog = s.xlog ∧ (acceptData f s).inputs = s.inputs ∧
    (acceptData f s).responses = s.responses := by
  refine ⟨?_, ?_, ?_, ?_, ?_, ?_, ?_, ?_, ?_, ?_, ?_, ?_, ?_, ?_, ?_, ?_, ?_, ?_, ?_, ?_, ?_, ?_, ?_⟩ <;> rfl

@[simp] theorem deferTransaction_fields (s : State) :
    (deferTransaction s).cfg = s.cfg ∧ (deferTransaction s).myAddr = s.myAddr ∧
    (deferTransaction s).addrSet = s.addrSet ∧ (deferTransaction s).tick = s.tick ∧
    (deferTransaction s).seqCtr = s.seqCtr ∧ (deferTransaction s).txState = .waitingForChannel ∧
    (deferTransaction s).txFrame = s.txFrame ∧ (deferTransaction s).txSeq = s.txSeq ∧
    (deferTransaction s).ackDeadline = s.ackDeadline ∧
    (deferTransaction s).retryDeadline = retryTick s.cfg s.tick ∧
    (deferTransaction s).ackStaged = s.ackStaged ∧ (deferTransaction s).ackDst = s.ackDst ∧
    (deferTransaction s).ackSeq = s.ackSeq ∧ (deferTransaction s).rxFull = s.rxFull ∧
    (deferTransaction s).rxFrame = s.rxFrame ∧ (deferTransaction s).held = s.held ∧
    (deferTransaction s).rxq = s.rxq ∧ (deferTransaction s).carrier = s.carrier ∧
    (deferTransaction s).txAnswers = s.txAnswers ∧ (deferTransaction s).draws = s.draws ∧
    (deferTransaction s).xlog = s.xlog ∧ (deferTransaction s).inputs = s.inputs ∧
    (deferTransaction s).responses = s.responses := by
  refine ⟨?_, ?_, ?_, ?_, ?_, ?_, ?_, ?_, ?_, ?_, ?_, ?_, ?_, ?_, ?_, ?_, ?_, ?_, ?_, ?_, ?_, ?_, ?_⟩ <;> rfl

@[simp] theorem awaitAck_fields (s : State) :
    (awaitAck s).cfg = s.cfg ∧ (awaitAck s).myAddr = s.myAddr ∧ (awaitAck s).addrSet = s.addrSet ∧
    (awaitAck s).tick = s.tick ∧ (awaitAck s).seqCtr = s.seqCtr ∧ (awaitAck s).txState = .waitingForAck ∧
    (awaitAck s).txFrame = s.txFrame ∧ (awaitAck s).txSeq = s.txSeq ∧
    (awaitAck s).ackDeadline = s.tick + s.cfg.ackTimeout ∧ (awaitAck s).retryDeadline = s.retryDeadline ∧
    (awaitAck s).ackStaged = s.ackStaged ∧ (awaitAck s).ackDst = s.ackDst ∧ (awaitAck s).ackSeq = s.ackSeq ∧
    (awaitAck s).rxFull = s.rxFull ∧ (awaitAck s).rxFrame = s.rxFrame ∧ (awaitAck s).held = s.held ∧
    (awaitAck s).rxq = s.rxq ∧ (awaitAck s).carrier = s.carrier ∧ (awaitAck s).txAnswers = s.txAnswers ∧
    (awaitAck s).draws = s.draws ∧ (awaitAck s).xlog = s.xlog ∧ (awaitAck s).inputs = s.inputs ∧
    (awaitAck s).responses = s.responses := by
  refine ⟨?_, ?_, ?_, ?_, ?_, ?_, ?_, ?_, ?_, ?_, ?_, ?_, ?_, ?_, ?_, ?_, ?_, ?_, ?_, ?_, ?_, ?_, ?_⟩ <;> rfl

@[simp] theorem freeTransaction_fields (s : State) :
    (freeTransaction s).cfg = s.cfg ∧ (freeTransaction s).myAddr = s.myAddr ∧
    (freeTransaction s).addrSet = s.addrSet ∧ (freeTransaction s).tick = s.tick ∧
    (freeTransaction s).seqCtr = s.seqCtr ∧ (freeTransaction s).txState = .idle ∧
    (freeTransaction s).txFrame = s.txFrame ∧ (freeTransaction s).txSeq = s.txSeq ∧
    (freeTransaction s).ackDeadline = s.ackDeadline ∧ (freeTransaction s).retryDeadline = s.retryDeadline ∧
    (freeTransaction s).ackStaged = s.ackStaged ∧ (freeTransaction s).ackDst = s.ackDst ∧
    (freeTransaction s).ackSeq = s.ackSeq ∧ (freeTransaction s).rxFull = s.rxFull ∧
    (freeTransaction s).rxFrame = s.rxFrame ∧ (freeTransaction s).held = s.held ∧
    (freeTransaction s).rxq = s.rxq ∧ (freeTransaction s).carrier = s.carrier ∧
    (freeTransaction s).txAnswers = s.txAnswers ∧ (freeTransaction s).draws = s.draws ∧
    (freeTransaction s).xlog = s.xlog ∧ (freeTransaction s).inputs = s.inputs ∧
    (freeTransaction s).responses = s.responses := by
  refine ⟨?_, ?_, ?_, ?_, ?_, ?_, ?_, ?_, ?_, ?_, ?_, ?_, ?_, ?_, ?_, ?_, ?_, ?_, ?_, ?_, ?_, ?_, ?_⟩ <;> rfl

@[simp] theorem stampTransaction_fields (receiver : Addr) (type : Byte) (payload : List Byte) (s : State) :
    (stampTransaction receiver type payload s).cfg = s.cfg ∧
    (stampTransaction receiver type payload s).myAddr = s.myAddr ∧
    (stampTransaction receiver type payload s).addrSet = s.addrSet ∧
    (stampTransaction receiver type payload s).tick = s.tick ∧
    (stampTransaction receiver type payload s).seqCtr = s.seqCtr + 1 ∧
    (stampTransaction receiver type payload s).txState = .pending ∧
    (stampTransaction receiver type payload s).txFrame = makeFrame s.myAddr receiver (s.seqCtr + 1) type payload ∧
    (stampTransaction receiver type payload s).txSeq = s.seqCtr + 1 ∧
    (stampTransaction receiver type payload s).ackDeadline = s.ackDeadline ∧
    (stampTransaction receiver type payload s).retryDeadline = s.retryDeadline ∧
    (stampTransaction receiver type payload s).ackStaged = s.ackStaged ∧
    (stampTransaction receiver type payload s).ackDst = s.ackDst ∧
    (stampTransaction receiver type payload s).ackSeq = s.ackSeq ∧
    (stampTransaction receiver type payload s).rxFull = s.rxFull ∧
    (stampTransaction receiver type payload s).rxFrame = s.rxFrame ∧
    (stampTransaction receiver type payload s).held = s.held ∧
    (stampTransaction receiver type payload s).rxq = s.rxq ∧
    (stampTransaction receiver type payload s).carrier = s.carrier ∧
    (stampTransaction receiver type payload s).txAnswers = s.txAnswers ∧
    (stampTransaction receiver type payload s).draws = s.draws ∧
    (stampTransaction receiver type payload s).xlog = s.xlog ∧
    (stampTransaction receiver type payload s).inputs = s.inputs ∧
    (stampTransaction receiver type payload s).responses = s.responses := by
  refine ⟨?_, ?_, ?_, ?_, ?_, ?_, ?_, ?_, ?_, ?_, ?_, ?_, ?_, ?_, ?_, ?_, ?_, ?_, ?_, ?_, ?_, ?_, ?_⟩ <;> rfl

@[simp] theorem completeTransaction_fields (s : State) :
    (completeTransaction s).cfg = s.cfg ∧ (completeTransaction s).myAddr = s.myAddr ∧
    (completeTransaction s).addrSet = s.addrSet ∧ (completeTransaction s).tick = s.tick ∧
    (completeTransaction s).seqCtr = s.seqCtr ∧ (completeTransaction s).txState = .succeeded ∧
    (completeTransaction s).txFrame = s.txFrame ∧ (completeTransaction s).txSeq = s.txSeq ∧
    (completeTransaction s).ackDeadline = s.ackDeadline ∧
    (completeTransaction s).retryDeadline = s.retryDeadline ∧
    (completeTransaction s).ackStaged = s.ackStaged ∧ (completeTransaction s).ackDst = s.ackDst ∧
    (completeTransaction s).ackSeq = s.ackSeq ∧ (completeTransaction s).rxFull = s.rxFull ∧
    (completeTransaction s).rxFrame = s.rxFrame ∧ (completeTransaction s).held = s.held ∧
    (completeTransaction s).rxq = s.rxq ∧ (completeTransaction s).carrier = s.carrier ∧
    (completeTransaction s).txAnswers = s.txAnswers ∧ (completeTransaction s).draws = s.draws ∧
    (completeTransaction s).xlog = s.xlog ∧ (completeTransaction s).inputs = s.inputs ∧
    (completeTransaction s).responses = s.responses := by
  refine ⟨?_, ?_, ?_, ?_, ?_, ?_, ?_, ?_, ?_, ?_, ?_, ?_, ?_, ?_, ?_, ?_, ?_, ?_, ?_, ?_, ?_, ?_, ?_⟩ <;> rfl

@[simp] theorem timeOutTransaction_fields (s : State) :
    (timeOutTransaction s).cfg = s.cfg ∧ (timeOutTransaction s).myAddr = s.myAddr ∧
    (timeOutTransaction s).addrSet = s.addrSet ∧ (timeOutTransaction s).tick = s.tick ∧
    (timeOutTransaction s).seqCtr = s.seqCtr ∧ (timeOutTransaction s).txState = .timedOut ∧
    (timeOutTransaction s).txFrame = s.txFrame ∧ (timeOutTransaction s).txSeq = s.txSeq ∧
    (timeOutTransaction s).ackDeadline = s.ackDeadline ∧
    (timeOutTransaction s).retryDeadline = s.retryDeadline ∧ (timeOutTransaction s).ackStaged = s.ackStaged ∧
    (timeOutTransaction s).ackDst = s.ackDst ∧ (timeOutTransaction s).ackSeq = s.ackSeq ∧
    (timeOutTransaction s).rxFull = s.rxFull ∧ (timeOutTransaction s).rxFrame = s.rxFrame ∧
    (timeOutTransaction s).held = s.held ∧ (timeOutTransaction s).rxq = s.rxq ∧
    (timeOutTransaction s).carrier = s.carrier ∧ (timeOutTransaction s).txAnswers = s.txAnswers ∧
    (timeOutTransaction s).draws = s.draws ∧ (timeOutTransaction s).xlog = s.xlog ∧
    (timeOutTransaction s).inputs = s.inputs ∧ (timeOutTransaction s).responses = s.responses := by
  refine ⟨?_, ?_, ?_, ?_, ?_, ?_, ?_, ?_, ?_, ?_, ?_, ?_, ?_, ?_, ?_, ?_, ?_, ?_, ?_, ?_, ?_, ?_, ?_⟩ <;> rfl

@[simp] theorem clearStagedAck_fields (s : State) :
    (clearStagedAck s).cfg = s.cfg ∧ (clearStagedAck s).myAddr = s.myAddr ∧
    (clearStagedAck s).addrSet = s.addrSet ∧ (clearStagedAck s).tick = s.tick ∧
    (clearStagedAck s).seqCtr = s.seqCtr ∧ (clearStagedAck s).txState = s.txState ∧
    (clearStagedAck s).txFrame = s.txFrame ∧ (clearStagedAck s).txSeq = s.txSeq ∧
    (clearStagedAck s).ackDeadline = s.ackDeadline ∧ (clearStagedAck s).retryDeadline = s.retryDeadline ∧
    (clearStagedAck s).ackStaged = false ∧ (clearStagedAck s).ackDst = s.ackDst ∧
    (clearStagedAck s).ackSeq = s.ackSeq ∧ (clearStagedAck s).rxFull = s.rxFull ∧
    (clearStagedAck s).rxFrame = s.rxFrame ∧ (clearStagedAck s).held = s.held ∧
    (clearStagedAck s).rxq = s.rxq ∧ (clearStagedAck s).carrier = s.carrier ∧
    (clearStagedAck s).txAnswers = s.txAnswers ∧ (clearStagedAck s).draws = s.draws ∧
    (clearStagedAck s).xlog = s.xlog ∧ (clearStagedAck s).inputs = s.inputs ∧
    (clearStagedAck s).responses = s.responses := by
  refine ⟨?_, ?_, ?_, ?_, ?_, ?_, ?_, ?_, ?_, ?_, ?_, ?_, ?_, ?_, ?_, ?_, ?_, ?_, ?_, ?_, ?_, ?_, ?_⟩ <;> rfl

@[simp] theorem setHeld_fields (h : Option Hold) (s : State) :
    (setHeld h s).cfg = s.cfg ∧ (setHeld h s).myAddr = s.myAddr ∧ (setHeld h s).addrSet = s.addrSet ∧
    (setHeld h s).tick = s.tick ∧ (setHeld h s).seqCtr = s.seqCtr ∧ (setHeld h s).txState = s.txState ∧
    (setHeld h s).txFrame = s.txFrame ∧ (setHeld h s).txSeq = s.txSeq ∧
    (setHeld h s).ackDeadline = s.ackDeadline ∧ (setHeld h s).retryDeadline = s.retryDeadline ∧
    (setHeld h s).ackStaged = s.ackStaged ∧ (setHeld h s).ackDst = s.ackDst ∧
    (setHeld h s).ackSeq = s.ackSeq ∧ (setHeld h s).rxFull = s.rxFull ∧ (setHeld h s).rxFrame = s.rxFrame ∧
    (setHeld h s).held = h ∧ (setHeld h s).rxq = s.rxq ∧ (setHeld h s).carrier = s.carrier ∧
    (setHeld h s).txAnswers = s.txAnswers ∧ (setHeld h s).draws = s.draws ∧ (setHeld h s).xlog = s.xlog ∧
    (setHeld h s).inputs = s.inputs ∧ (setHeld h s).responses = s.responses := by
  refine ⟨?_, ?_, ?_, ?_, ?_, ?_, ?_, ?_, ?_, ?_, ?_, ?_, ?_, ?_, ?_, ?_, ?_, ?_, ?_, ?_, ?_, ?_, ?_⟩ <;> rfl

@[simp] theorem clearInbound_fields (s : State) :
    (clearInbound s).cfg = s.cfg ∧ (clearInbound s).myAddr = s.myAddr ∧ (clearInbound s).addrSet = s.addrSet ∧
    (clearInbound s).tick = s.tick ∧ (clearInbound s).seqCtr = s.seqCtr ∧
    (clearInbound s).txState = s.txState ∧ (clearInbound s).txFrame = s.txFrame ∧
    (clearInbound s).txSeq = s.txSeq ∧ (clearInbound s).ackDeadline = s.ackDeadline ∧
    (clearInbound s).retryDeadline = s.retryDeadline ∧ (clearInbound s).ackStaged = s.ackStaged ∧
    (clearInbound s).ackDst = s.ackDst ∧ (clearInbound s).ackSeq = s.ackSeq ∧
    (clearInbound s).rxFull = false ∧ (clearInbound s).rxFrame = s.rxFrame ∧ (clearInbound s).held = s.held ∧
    (clearInbound s).rxq = s.rxq ∧ (clearInbound s).carrier = s.carrier ∧
    (clearInbound s).txAnswers = s.txAnswers ∧ (clearInbound s).draws = s.draws ∧
    (clearInbound s).xlog = s.xlog ∧ (clearInbound s).inputs = s.inputs ∧
    (clearInbound s).responses = s.responses := by
  refine ⟨?_, ?_, ?_, ?_, ?_, ?_, ?_, ?_, ?_, ?_, ?_, ?_, ?_, ?_, ?_, ?_, ?_, ?_, ?_, ?_, ?_, ?_, ?_⟩ <;> rfl

@[simp] theorem assignAddress_fields (addr : Addr) (s : State) :
    (assignAddress addr s).cfg = s.cfg ∧ (assignAddress addr s).myAddr = addr ∧
    (assignAddress addr s).addrSet = true ∧ (assignAddress addr s).tick = s.tick ∧
    (assignAddress addr s).seqCtr = s.seqCtr ∧ (assignAddress addr s).txState = s.txState ∧
    (assignAddress addr s).txFrame = s.txFrame ∧ (assignAddress addr s).txSeq = s.txSeq ∧
    (assignAddress addr s).ackDeadline = s.ackDeadline ∧
    (assignAddress addr s).retryDeadline = s.retryDeadline ∧ (assignAddress addr s).ackStaged = s.ackStaged ∧
    (assignAddress addr s).ackDst = s.ackDst ∧ (assignAddress addr s).ackSeq = s.ackSeq ∧
    (assignAddress addr s).rxFull = s.rxFull ∧ (assignAddress addr s).rxFrame = s.rxFrame ∧
    (assignAddress addr s).held = s.held ∧ (assignAddress addr s).rxq = s.rxq ∧
    (assignAddress addr s).carrier = s.carrier ∧ (assignAddress addr s).txAnswers = s.txAnswers ∧
    (assignAddress addr s).draws = s.draws ∧ (assignAddress addr s).xlog = s.xlog ∧
    (assignAddress addr s).inputs = s.inputs ∧ (assignAddress addr s).responses = s.responses := by
  refine ⟨?_, ?_, ?_, ?_, ?_, ?_, ?_, ?_, ?_, ?_, ?_, ?_, ?_, ?_, ?_, ?_, ?_, ?_, ?_, ?_, ?_, ?_, ?_⟩ <;> rfl

@[simp] theorem setInputs_fields (rest : List Input) (s : State) :
    (setInputs rest s).cfg = s.cfg ∧ (setInputs rest s).myAddr = s.myAddr ∧
    (setInputs rest s).addrSet = s.addrSet ∧ (setInputs rest s).tick = s.tick ∧
    (setInputs rest s).seqCtr = s.seqCtr ∧ (setInputs rest s).txState = s.txState ∧
    (setInputs rest s).txFrame = s.txFrame ∧ (setInputs rest s).txSeq = s.txSeq ∧
    (setInputs rest s).ackDeadline = s.ackDeadline ∧ (setInputs rest s).retryDeadline = s.retryDeadline ∧
    (setInputs rest s).ackStaged = s.ackStaged ∧ (setInputs rest s).ackDst = s.ackDst ∧
    (setInputs rest s).ackSeq = s.ackSeq ∧ (setInputs rest s).rxFull = s.rxFull ∧
    (setInputs rest s).rxFrame = s.rxFrame ∧ (setInputs rest s).held = s.held ∧
    (setInputs rest s).rxq = s.rxq ∧ (setInputs rest s).carrier = s.carrier ∧
    (setInputs rest s).txAnswers = s.txAnswers ∧ (setInputs rest s).draws = s.draws ∧
    (setInputs rest s).xlog = s.xlog ∧ (setInputs rest s).inputs = rest ∧
    (setInputs rest s).responses = s.responses := by
  refine ⟨?_, ?_, ?_, ?_, ?_, ?_, ?_, ?_, ?_, ?_, ?_, ?_, ?_, ?_, ?_, ?_, ?_, ?_, ?_, ?_, ?_, ?_, ?_⟩ <;> rfl

@[simp] theorem arrive_fields (f : Frame) (s : State) :
    (arrive f s).cfg = s.cfg ∧ (arrive f s).myAddr = s.myAddr ∧ (arrive f s).addrSet = s.addrSet ∧
    (arrive f s).tick = s.tick ∧ (arrive f s).seqCtr = s.seqCtr ∧ (arrive f s).txState = s.txState ∧
    (arrive f s).txFrame = s.txFrame ∧ (arrive f s).txSeq = s.txSeq ∧
    (arrive f s).ackDeadline = s.ackDeadline ∧ (arrive f s).retryDeadline = s.retryDeadline ∧
    (arrive f s).ackStaged = s.ackStaged ∧ (arrive f s).ackDst = s.ackDst ∧ (arrive f s).ackSeq = s.ackSeq ∧
    (arrive f s).rxFull = s.rxFull ∧ (arrive f s).rxFrame = s.rxFrame ∧ (arrive f s).held = s.held ∧
    (arrive f s).rxq = s.rxq ++ [f] ∧ (arrive f s).carrier = s.carrier ∧
    (arrive f s).txAnswers = s.txAnswers ∧ (arrive f s).draws = s.draws ∧ (arrive f s).xlog = s.xlog ∧
    (arrive f s).inputs = s.inputs ∧ (arrive f s).responses = s.responses := by
  refine ⟨?_, ?_, ?_, ?_, ?_, ?_, ?_, ?_, ?_, ?_, ?_, ?_, ?_, ?_, ?_, ?_, ?_, ?_, ?_, ?_, ?_, ?_, ?_⟩ <;> rfl

@[simp] theorem loseFrame_fields (place : Nat) (s : State) :
    (loseFrame place s).cfg = s.cfg ∧ (loseFrame place s).myAddr = s.myAddr ∧
    (loseFrame place s).addrSet = s.addrSet ∧ (loseFrame place s).tick = s.tick ∧
    (loseFrame place s).seqCtr = s.seqCtr ∧ (loseFrame place s).txState = s.txState ∧
    (loseFrame place s).txFrame = s.txFrame ∧ (loseFrame place s).txSeq = s.txSeq ∧
    (loseFrame place s).ackDeadline = s.ackDeadline ∧ (loseFrame place s).retryDeadline = s.retryDeadline ∧
    (loseFrame place s).ackStaged = s.ackStaged ∧ (loseFrame place s).ackDst = s.ackDst ∧
    (loseFrame place s).ackSeq = s.ackSeq ∧ (loseFrame place s).rxFull = s.rxFull ∧
    (loseFrame place s).rxFrame = s.rxFrame ∧ (loseFrame place s).held = s.held ∧
    (loseFrame place s).rxq = s.rxq.eraseIdx place ∧ (loseFrame place s).carrier = s.carrier ∧
    (loseFrame place s).txAnswers = s.txAnswers ∧ (loseFrame place s).draws = s.draws ∧
    (loseFrame place s).xlog = s.xlog ∧ (loseFrame place s).inputs = s.inputs ∧
    (loseFrame place s).responses = s.responses := by
  refine ⟨?_, ?_, ?_, ?_, ?_, ?_, ?_, ?_, ?_, ?_, ?_, ?_, ?_, ?_, ?_, ?_, ?_, ?_, ?_, ?_, ?_, ?_, ?_⟩ <;> rfl

@[simp] theorem addCarrier_fields (b : Bool) (s : State) :
    (addCarrier b s).cfg = s.cfg ∧ (addCarrier b s).myAddr = s.myAddr ∧ (addCarrier b s).addrSet = s.addrSet ∧
    (addCarrier b s).tick = s.tick ∧ (addCarrier b s).seqCtr = s.seqCtr ∧
    (addCarrier b s).txState = s.txState ∧ (addCarrier b s).txFrame = s.txFrame ∧
    (addCarrier b s).txSeq = s.txSeq ∧ (addCarrier b s).ackDeadline = s.ackDeadline ∧
    (addCarrier b s).retryDeadline = s.retryDeadline ∧ (addCarrier b s).ackStaged = s.ackStaged ∧
    (addCarrier b s).ackDst = s.ackDst ∧ (addCarrier b s).ackSeq = s.ackSeq ∧
    (addCarrier b s).rxFull = s.rxFull ∧ (addCarrier b s).rxFrame = s.rxFrame ∧
    (addCarrier b s).held = s.held ∧ (addCarrier b s).rxq = s.rxq ∧
    (addCarrier b s).carrier = s.carrier ++ [b] ∧ (addCarrier b s).txAnswers = s.txAnswers ∧
    (addCarrier b s).draws = s.draws ∧ (addCarrier b s).xlog = s.xlog ∧ (addCarrier b s).inputs = s.inputs ∧
    (addCarrier b s).responses = s.responses := by
  refine ⟨?_, ?_, ?_, ?_, ?_, ?_, ?_, ?_, ?_, ?_, ?_, ?_, ?_, ?_, ?_, ?_, ?_, ?_, ?_, ?_, ?_, ?_, ?_⟩ <;> rfl

@[simp] theorem addTxAnswer_fields (b : Bool) (s : State) :
    (addTxAnswer b s).cfg = s.cfg ∧ (addTxAnswer b s).myAddr = s.myAddr ∧
    (addTxAnswer b s).addrSet = s.addrSet ∧ (addTxAnswer b s).tick = s.tick ∧
    (addTxAnswer b s).seqCtr = s.seqCtr ∧ (addTxAnswer b s).txState = s.txState ∧
    (addTxAnswer b s).txFrame = s.txFrame ∧ (addTxAnswer b s).txSeq = s.txSeq ∧
    (addTxAnswer b s).ackDeadline = s.ackDeadline ∧ (addTxAnswer b s).retryDeadline = s.retryDeadline ∧
    (addTxAnswer b s).ackStaged = s.ackStaged ∧ (addTxAnswer b s).ackDst = s.ackDst ∧
    (addTxAnswer b s).ackSeq = s.ackSeq ∧ (addTxAnswer b s).rxFull = s.rxFull ∧
    (addTxAnswer b s).rxFrame = s.rxFrame ∧ (addTxAnswer b s).held = s.held ∧ (addTxAnswer b s).rxq = s.rxq ∧
    (addTxAnswer b s).carrier = s.carrier ∧ (addTxAnswer b s).txAnswers = s.txAnswers ++ [b] ∧
    (addTxAnswer b s).draws = s.draws ∧ (addTxAnswer b s).xlog = s.xlog ∧
    (addTxAnswer b s).inputs = s.inputs ∧ (addTxAnswer b s).responses = s.responses := by
  refine ⟨?_, ?_, ?_, ?_, ?_, ?_, ?_, ?_, ?_, ?_, ?_, ?_, ?_, ?_, ?_, ?_, ?_, ?_, ?_, ?_, ?_, ?_, ?_⟩ <;> rfl

@[simp] theorem askBusy_fields (s : State) :
    (askBusy s).cfg = s.cfg ∧ (askBusy s).myAddr = s.myAddr ∧ (askBusy s).addrSet = s.addrSet ∧
    (askBusy s).tick = s.tick ∧ (askBusy s).seqCtr = s.seqCtr ∧ (askBusy s).txState = s.txState ∧
    (askBusy s).txFrame = s.txFrame ∧ (askBusy s).txSeq = s.txSeq ∧ (askBusy s).ackDeadline = s.ackDeadline ∧
    (askBusy s).retryDeadline = s.retryDeadline ∧ (askBusy s).ackStaged = s.ackStaged ∧
    (askBusy s).ackDst = s.ackDst ∧ (askBusy s).ackSeq = s.ackSeq ∧ (askBusy s).rxFull = s.rxFull ∧
    (askBusy s).rxFrame = s.rxFrame ∧ (askBusy s).held = s.held ∧ (askBusy s).rxq = s.rxq ∧
    (askBusy s).carrier = s.carrier.tail ∧ (askBusy s).txAnswers = s.txAnswers ∧
    (askBusy s).xlog = s.xlog ++ [.carrierSense (busyAnswer s)] ∧ (askBusy s).inputs = s.inputs ∧
    (askBusy s).responses = s.responses := by
  cases h : s.carrier <;> simp [busyAnswer, askBusy, h]

@[simp] theorem askTxActive_fields (s : State) :
    (askTxActive s).cfg = s.cfg ∧ (askTxActive s).myAddr = s.myAddr ∧ (askTxActive s).addrSet = s.addrSet ∧
    (askTxActive s).tick = s.tick ∧ (askTxActive s).seqCtr = s.seqCtr ∧ (askTxActive s).txState = s.txState ∧
    (askTxActive s).txFrame = s.txFrame ∧ (askTxActive s).txSeq = s.txSeq ∧
    (askTxActive s).ackDeadline = s.ackDeadline ∧ (askTxActive s).retryDeadline = s.retryDeadline ∧
    (askTxActive s).ackStaged = s.ackStaged ∧ (askTxActive s).ackDst = s.ackDst ∧
    (askTxActive s).ackSeq = s.ackSeq ∧ (askTxActive s).rxFull = s.rxFull ∧
    (askTxActive s).rxFrame = s.rxFrame ∧ (askTxActive s).held = s.held ∧ (askTxActive s).rxq = s.rxq ∧
    (askTxActive s).carrier = s.carrier ∧ (askTxActive s).txAnswers = s.txAnswers.tail ∧
    (askTxActive s).xlog = s.xlog ∧ (askTxActive s).inputs = s.inputs ∧
    (askTxActive s).responses = s.responses := by
  cases h : s.txAnswers <;> simp [askTxActive, h]

@[simp] theorem checkTimeout_fields (s : State) :
    (checkTimeout s).cfg = s.cfg ∧ (checkTimeout s).myAddr = s.myAddr ∧ (checkTimeout s).addrSet = s.addrSet ∧
    (checkTimeout s).tick = s.tick ∧ (checkTimeout s).seqCtr = s.seqCtr ∧
    (checkTimeout s).txState = (if ackTimedOut s then .timedOut else s.txState) ∧
    (checkTimeout s).txFrame = s.txFrame ∧ (checkTimeout s).txSeq = s.txSeq ∧
    (checkTimeout s).ackDeadline = s.ackDeadline ∧ (checkTimeout s).retryDeadline = s.retryDeadline ∧
    (checkTimeout s).ackStaged = s.ackStaged ∧ (checkTimeout s).ackDst = s.ackDst ∧
    (checkTimeout s).ackSeq = s.ackSeq ∧ (checkTimeout s).rxFull = s.rxFull ∧
    (checkTimeout s).rxFrame = s.rxFrame ∧ (checkTimeout s).held = s.held ∧ (checkTimeout s).rxq = s.rxq ∧
    (checkTimeout s).carrier = s.carrier ∧ (checkTimeout s).txAnswers = s.txAnswers ∧
    (checkTimeout s).draws = s.draws ∧ (checkTimeout s).xlog = s.xlog ∧ (checkTimeout s).inputs = s.inputs ∧
    (checkTimeout s).responses = s.responses := by
  unfold checkTimeout; split <;> simp_all

@[simp] theorem sendStagedAck_fields (s : State) :
    (sendStagedAck s).cfg = s.cfg ∧ (sendStagedAck s).myAddr = s.myAddr ∧
    (sendStagedAck s).addrSet = s.addrSet ∧ (sendStagedAck s).tick = s.tick ∧
    (sendStagedAck s).seqCtr = s.seqCtr ∧ (sendStagedAck s).txState = s.txState ∧
    (sendStagedAck s).txFrame = s.txFrame ∧ (sendStagedAck s).txSeq = s.txSeq ∧
    (sendStagedAck s).ackDeadline = s.ackDeadline ∧ (sendStagedAck s).retryDeadline = s.retryDeadline ∧
    (sendStagedAck s).ackStaged = false ∧ (sendStagedAck s).ackDst = s.ackDst ∧
    (sendStagedAck s).ackSeq = s.ackSeq ∧ (sendStagedAck s).rxFull = s.rxFull ∧
    (sendStagedAck s).rxFrame = s.rxFrame ∧ (sendStagedAck s).held = s.held ∧ (sendStagedAck s).rxq = s.rxq ∧
    (sendStagedAck s).carrier = s.carrier ∧ (sendStagedAck s).txAnswers = s.txAnswers ∧
    (sendStagedAck s).draws = s.draws ∧
    (sendStagedAck s).xlog = (s.xlog ++ if s.ackStaged then [.send (ackFrame s)] else []) ∧
    (sendStagedAck s).inputs = s.inputs ∧ (sendStagedAck s).responses = s.responses := by
  unfold sendStagedAck; split <;> simp_all

@[simp] theorem sendData_fields (elig : Bool) (s : State) :
    (sendData elig s).cfg = s.cfg ∧ (sendData elig s).myAddr = s.myAddr ∧
    (sendData elig s).addrSet = s.addrSet ∧ (sendData elig s).tick = s.tick ∧
    (sendData elig s).seqCtr = s.seqCtr ∧ (sendData elig s).txState = s.txState ∧
    (sendData elig s).txFrame = s.txFrame ∧ (sendData elig s).txSeq = s.txSeq ∧
    (sendData elig s).ackDeadline = s.ackDeadline ∧ (sendData elig s).retryDeadline = s.retryDeadline ∧
    (sendData elig s).ackStaged = s.ackStaged ∧ (sendData elig s).ackDst = s.ackDst ∧
    (sendData elig s).ackSeq = s.ackSeq ∧ (sendData elig s).rxFull = s.rxFull ∧
    (sendData elig s).rxFrame = s.rxFrame ∧ (sendData elig s).held = s.held ∧ (sendData elig s).rxq = s.rxq ∧
    (sendData elig s).carrier = s.carrier ∧ (sendData elig s).txAnswers = s.txAnswers ∧
    (sendData elig s).draws = s.draws ∧
    (sendData elig s).xlog = (s.xlog ++ if elig then [.send s.txFrame] else []) ∧
    (sendData elig s).inputs = s.inputs ∧ (sendData elig s).responses = s.responses := by
  unfold sendData; split <;> simp_all

@[simp] theorem matchAck_fields (f : Frame) (s : State) :
    (matchAck f s).cfg = s.cfg ∧ (matchAck f s).myAddr = s.myAddr ∧ (matchAck f s).addrSet = s.addrSet ∧
    (matchAck f s).tick = s.tick ∧ (matchAck f s).seqCtr = s.seqCtr ∧
    (matchAck f s).txState = (if s.txState = .waitingForAck ∧ seqOf f = s.txSeq then .succeeded else s.txState) ∧
    (matchAck f s).txFrame = s.txFrame ∧ (matchAck f s).txSeq = s.txSeq ∧
    (matchAck f s).ackDeadline = s.ackDeadline ∧ (matchAck f s).retryDeadline = s.retryDeadline ∧
    (matchAck f s).ackStaged = s.ackStaged ∧ (matchAck f s).ackDst = s.ackDst ∧
    (matchAck f s).ackSeq = s.ackSeq ∧ (matchAck f s).rxFull = s.rxFull ∧ (matchAck f s).rxFrame = s.rxFrame ∧
    (matchAck f s).held = s.held ∧ (matchAck f s).rxq = s.rxq ∧ (matchAck f s).carrier = s.carrier ∧
    (matchAck f s).txAnswers = s.txAnswers ∧ (matchAck f s).draws = s.draws ∧ (matchAck f s).xlog = s.xlog ∧
    (matchAck f s).inputs = s.inputs ∧ (matchAck f s).responses = s.responses := by
  unfold matchAck; split <;> simp_all

end Sys2Proof.Machine
end

