-- ==== Sys2Proof/Laws/Receive.lean ====
section
/-! SUPPORT. The Receive Drainer: what one pulled frame can do, and the drain loop, each said once. -/

namespace Sys2Proof.Machine

/-- Everything one pulled frame can do: it is accepted as DATA, or it completes the transaction, or nothing. -/
theorem receiveFrame_cases (f : Frame) (s : State) :
    (isDataForMe s f = true ∧ receiveFrame f s = acceptData f s) ∨
      (isDataForMe s f = false ∧ isAckForMe s f = true ∧ s.txState = .waitingForAck ∧
        receiveFrame f s = completeTransaction s) ∨
      (isDataForMe s f = false ∧ (isAckForMe s f = false ∨ s.txState ≠ .waitingForAck) ∧ receiveFrame f s = s) := by
  unfold receiveFrame
  by_cases ha : addressedTo s.cfg s.myAddr f <;> by_cases hk : isAckFrame f <;>
    simp [ha, hk, isDataForMe, isAckForMe, matchAck]
  by_cases h1 : s.txState = .waitingForAck <;> by_cases h2 : seqOf f = s.txSeq <;> simp [h1, h2]

theorem drain_full (b : Nat) (s : State) (h : s.rxFull = true) : drain b s = (0, s) := by
  cases b <;> simp [drain, h]

theorem drain_empty (b : Nat) (s : State) (h : s.rxq = []) : drain b s = (0, s) := by
  cases b <;> simp [drain, h]

theorem drain_cons (b : Nat) (s : State) (f : Frame) (rest : List Frame) (h : s.rxFull = false)
    (hq : s.rxq = f :: rest) :
    drain (b + 1) s =
      ((drain b (receiveFrame f (xPop f rest s))).1 + 1, (drain b (receiveFrame f (xPop f rest s))).2) := by
  simp [drain, h, hq]

/-- What every pull keeps, the whole loop keeps. -/
theorem drain_keeps (P : State → Prop)
    (pull : ∀ s f rest, s.rxFull = false → s.rxq = f :: rest → P s → P (receiveFrame f (xPop f rest s))) :
    ∀ (b : Nat) (s : State), P s → P (drain b s).2
  | 0, _, hp => hp
  | b + 1, s, hp => by
    by_cases h : s.rxFull
    · simpa [drain, h] using hp
    · have h' : s.rxFull = false := by simpa using h
      cases hq : s.rxq with
      | nil => simpa [drain, hq] using hp
      | cons f rest =>
        rw [drain_cons b s f rest h' hq]
        exact drain_keeps P pull b _ (pull s f rest h' hq hp)

/-- What the loop never touches. -/
theorem drain_frame (b : Nat) (s : State) :
    (drain b s).2.cfg = s.cfg ∧ (drain b s).2.myAddr = s.myAddr ∧ (drain b s).2.addrSet = s.addrSet ∧
      (drain b s).2.tick = s.tick ∧ (drain b s).2.seqCtr = s.seqCtr ∧ (drain b s).2.txFrame = s.txFrame ∧
      (drain b s).2.txSeq = s.txSeq ∧ (drain b s).2.ackDeadline = s.ackDeadline ∧
      (drain b s).2.retryDeadline = s.retryDeadline ∧ (drain b s).2.held = s.held ∧
      (drain b s).2.carrier = s.carrier ∧ (drain b s).2.txAnswers = s.txAnswers ∧
      (drain b s).2.draws = s.draws ∧ (drain b s).2.inputs = s.inputs ∧
      (drain b s).2.responses = s.responses := by
  refine drain_keeps
    (fun t => t.cfg = s.cfg ∧ t.myAddr = s.myAddr ∧ t.addrSet = s.addrSet ∧ t.tick = s.tick ∧
      t.seqCtr = s.seqCtr ∧ t.txFrame = s.txFrame ∧ t.txSeq = s.txSeq ∧ t.ackDeadline = s.ackDeadline ∧
      t.retryDeadline = s.retryDeadline ∧ t.held = s.held ∧ t.carrier = s.carrier ∧ t.txAnswers = s.txAnswers ∧
      t.draws = s.draws ∧ t.inputs = s.inputs ∧ t.responses = s.responses)
    (fun t f rest _ _ hp => ?_) b s (by simp)
  rcases receiveFrame_cases f (xPop f rest t) with ⟨_, e⟩ | ⟨_, _, _, e⟩ | ⟨_, _, e⟩ <;> rw [e] <;> simpa using hp

/-- What the loop takes: some number of frames, within its budget, from the head of the queue, in order, each on record. -/
theorem drain_pulls (b : Nat) (s : State) :
    (drain b s).1 ≤ b ∧ (drain b s).1 ≤ s.rxq.length ∧ (drain b s).2.rxq = s.rxq.drop (drain b s).1 ∧
      (drain b s).2.xlog = s.xlog ++ (s.rxq.take (drain b s).1).map .pop := by
  induction b generalizing s with
  | zero => simp [drain]
  | succ b ih =>
    by_cases hf : s.rxFull
    · simp [drain, hf]
    · cases hq : s.rxq with
      | nil => simp [drain, hq]
      | cons f rest =>
        rw [drain_cons b s f rest (by simpa using hf) hq]
        have h := ih (receiveFrame f (xPop f rest s))
        rcases receiveFrame_cases f (xPop f rest s) with ⟨_, e⟩ | ⟨_, _, _, e⟩ | ⟨_, _, e⟩ <;> rw [e] at h ⊢ <;>
          simpa using h

end Sys2Proof.Machine
end

