-- ==== Sys2Proof/Laws/Step.lean ====
section
/-! SUPPORT. One step: what it meets and what it can answer, each said once. -/

namespace Sys2Proof.Machine

/-- A gated command that answers has run, or was turned away (R223). -/
theorem whenConfigured_next {s t : State} {run : Result} (h : whenConfigured s run = .next t) :
    (s.addrSet = true ∧ run = .next t) ∨ (s.addrSet = false ∧ t = respond .errUnconfigured s) := by
  unfold whenConfigured at h
  split at h
  · exact .inl ⟨‹_›, h⟩
  · rename_i hs
    cases h
    exact .inr ⟨by simpa using hs, rfl⟩

/-- A rejected transfer that answers was an illegal word (R96). -/
theorem rejectCommand_next {r : Rejection} {s t : State} (h : rejectCommand r s = .next t) :
    t = respond .errIllegal s := by
  cases r <;> cases h <;> rfl

/-- Everything a step that answers can have done. -/
theorem step_cases {s t : State} (h : step s = .next t) :
    (s.inputs = [] ∧ s.held = none ∧ t = s) ∨
      (∃ f rest, s.inputs = .frame f :: rest ∧ f.length = s.cfg.frameLen ∧ t = arrive f (setInputs rest s)) ∨
      (∃ place rest, s.inputs = .lose place :: rest ∧ t = loseFrame place (setInputs rest s)) ∨
      (∃ b rest, s.inputs = .carrier b :: rest ∧ t = addCarrier b (setInputs rest s)) ∨
      (∃ b rest, s.inputs = .txActive b :: rest ∧ t = addTxAnswer b (setInputs rest s)) ∨
      (∃ rest, s.inputs = .reset :: rest ∧ t = applyReset (setInputs rest s)) ∨
      (∃ hd, s.held = some hd ∧ t = awaitBurst hd s) ∨
      (∃ word data rest, offered s word data rest ∧
        ((∃ i, decode s.cfg word data = .command i ∧ exec i (setInputs rest s) = .next t) ∨
          t = respond .errIllegal (setInputs rest s))) := by
  unfold step fetch at h
  cases hi : s.inputs with
  | nil =>
    cases hh : s.held with
    | none => simp_all
    | some hd => simp_all
  | cons i rest =>
    cases i with
    | frame f =>
      by_cases hl : f.length = s.cfg.frameLen
      · simp_all
      · simp [hi, hl] at h
    | lose place => simp_all
    | carrier b => simp_all
    | txActive b => simp_all
    | reset => simp_all
    | command word data =>
      cases hh : s.held with
      | some hd => simp_all
      | none =>
        refine .inr (.inr (.inr (.inr (.inr (.inr (.inr ⟨word, data, rest, ⟨hi, hh⟩, ?_⟩))))))
        simp only [hi, hh] at h
        cases hd : decode s.cfg word data with
        | command i => exact .inl ⟨i, rfl, by simpa [hd] using h⟩
        | rejected r => exact .inr (rejectCommand_next (by simpa [hd] using h))

/-- A run of several steps takes its first step. -/
theorem core_run_succ (s t : State) (n : Nat) (h : step s = .next t) :
    Sys2Proof.core.run (n + 1) s = Sys2Proof.core.run n t := by
  have general : ∀ (M : Host.Core) (a b : M.State) (n : Nat), M.step a = .next b → M.run (n + 1) a = M.run n b := by
    intro M a b n h
    simp [Host.Core.run, h]
  exact general Sys2Proof.core s t n h

end Sys2Proof.Machine
end

