-- ==== Sys2Proof/Laws/Transmit.lean ====
section
/-! SUPPORT. The Transmit Attempter: its outcomes, each said once. -/

namespace Sys2Proof.Machine

theorem eligible_iff (s : State) :
    eligible s = true ↔ s.txState = .pending ∨ (s.txState = .waitingForChannel ∧ s.tick = s.retryDeadline) := by
  simp [eligible]

/-- The wait ends or goes on; nothing else can come of one look at the Transceiver (R162). -/
theorem awaitBurst_cases (h : Hold) (s : State) :
    (txActiveAnswer s = true ∧ awaitBurst h s = setHeld (some h) (askTxActive s)) ∨
      (txActiveAnswer s = false ∧ awaitBurst h s = finishBurst h (askTxActive s)) := by
  unfold awaitBurst
  cases txActiveAnswer s <;> simp

/-- Everything a configured TICK_TX can do: nothing but the timeout check, or one attempt after it. -/
theorem execTickTx_cases (s : State) (h : s.addrSet = true) :
    (eligible (checkTimeout s) = false ∧ ackOnly (checkTimeout s) = false ∧
        execTickTx s =
          .next (respondWith .ok (TxFlags.data ⟨ackTimedOut s, false, false, false, false⟩) [] (checkTimeout s))) ∨
      ((eligible (checkTimeout s) = true ∨ ackOnly (checkTimeout s) = true) ∧
        execTickTx s = .next (attempt (ackTimedOut s) (checkTimeout s))) := by
  unfold execTickTx whenConfigured
  cases eligible (checkTimeout s) <;> cases ackOnly (checkTimeout s) <;> simp [h]

/-- Everything an attempt can do: a busy channel, or a burst and its wait. -/
theorem attempt_cases (timeout : Bool) (s : State) :
    (busyAnswer s = true ∧
        attempt timeout s =
          respondWith .ok (TxFlags.data ⟨timeout, true, true, false, false⟩) []
            (if eligible s then deferTransaction (askBusy s) else askBusy s)) ∨
      (busyAnswer s = false ∧
        attempt timeout s =
          awaitBurst ⟨eligible s, ⟨timeout, true, false, s.ackStaged, eligible s⟩⟩
            (sendData (eligible s) (sendStagedAck (askBusy s)))) := by
  unfold attempt
  cases busyAnswer s <;> simp

/-- Pushing frames does not change what `XTxActive()` answers. -/
@[simp] theorem txActiveAnswer_burst (elig : Bool) (s : State) :
    txActiveAnswer (sendData elig (sendStagedAck s)) = txActiveAnswer s := by
  simp [txActiveAnswer]

/-- The end of TICK_TX, field by field. -/
@[simp] theorem finishBurst_fields (h : Hold) (s : State) :
    (finishBurst h s).cfg = s.cfg ∧ (finishBurst h s).myAddr = s.myAddr ∧ (finishBurst h s).addrSet = s.addrSet ∧
      (finishBurst h s).tick = s.tick ∧ (finishBurst h s).seqCtr = s.seqCtr ∧
      (finishBurst h s).txState = (if h.elig then .waitingForAck else s.txState) ∧
      (finishBurst h s).txFrame = s.txFrame ∧ (finishBurst h s).txSeq = s.txSeq ∧
      (finishBurst h s).ackDeadline = (if h.elig then s.tick + s.cfg.ackTimeout else s.ackDeadline) ∧
      (finishBurst h s).retryDeadline = s.retryDeadline ∧ (finishBurst h s).ackStaged = s.ackStaged ∧
      (finishBurst h s).ackDst = s.ackDst ∧ (finishBurst h s).ackSeq = s.ackSeq ∧
      (finishBurst h s).rxFull = s.rxFull ∧ (finishBurst h s).rxFrame = s.rxFrame ∧
      (finishBurst h s).held = none ∧ (finishBurst h s).rxq = s.rxq ∧ (finishBurst h s).carrier = s.carrier ∧
      (finishBurst h s).txAnswers = s.txAnswers ∧ (finishBurst h s).draws = s.draws ∧
      (finishBurst h s).xlog = s.xlog ∧ (finishBurst h s).inputs = s.inputs ∧
      (finishBurst h s).responses = s.responses ++ [⟨resultWord .ok h.flags.data, []⟩] := by
  unfold finishBurst
  cases h.elig <;> simp

end Sys2Proof.Machine
end

