-- ==== Sys2Proof/Machine/Assembler.lean ====
section
/-! DEFINITION. The assembler syntax of commands and of a test program's environment events (30_encoding.md R102), and
the pseudo-commands, which are sequences of the host (R103). Nothing here is part of a step of the MAC. -/

namespace Sys2Proof.Machine

/-- A token of one line. -/
inductive Token where
  | word (chars : List Char)
  | comma
  | openBracket
  | closeBracket
  deriving DecidableEq, Repr

/-- The word read so far, if there is one, in front of the tokens after it. -/
def flushWord (word : List Char) (rest : List Token) : List Token :=
  match word with
  | [] => rest
  | c :: cs => .word (c :: cs) :: rest

/-- The tokens of one line; a comment starts with `;` and ends the line (R102). -/
def tokens (word : List Char) : List Char → List Token
  | [] => flushWord word []
  | c :: cs =>
    if c == ';' then flushWord word []
    else if c == ' ' || c == '\t' then flushWord word (tokens [] cs)
    else if c == ',' then flushWord word (.comma :: tokens [] cs)
    else if c == '[' then flushWord word (.openBracket :: tokens [] cs)
    else if c == ']' then flushWord word (.closeBracket :: tokens [] cs)
    else tokens (word ++ [c]) cs

/-- The value of one digit of a base up to 16. -/
def digitValue (base : Nat) (c : Char) : Option Nat :=
  let v :=
    if '0'.toNat ≤ c.toNat && c.toNat ≤ '9'.toNat then c.toNat - '0'.toNat
    else if 'A'.toNat ≤ c.toNat && c.toNat ≤ 'F'.toNat then c.toNat - 'A'.toNat + 10
    else if 'a'.toNat ≤ c.toNat && c.toNat ≤ 'f'.toNat then c.toNat - 'a'.toNat + 10
    else base
  if v < base then some v else none

/-- The value of a string of digits, after the value `acc` of those before it. -/
def digitsValue (base : Nat) (acc : Nat) : List Char → Option Nat
  | [] => some acc
  | c :: cs =>
    match digitValue base c with
    | some v => digitsValue base (acc * base + v) cs
    | none => none

/-- A number: decimal, or hexadecimal after `0x` (R102). -/
def number : List Char → Option Nat
  | [] => none
  | '0' :: 'x' :: c :: cs => digitsValue 16 0 (c :: cs)
  | c :: cs => digitsValue 10 0 (c :: cs)

/-- A number below `2 ^ w`. -/
def boundedNumber (w : Nat) (chars : List Char) : Option (BitVec w) :=
  match number chars with
  | some n => if n < 2 ^ w then some (BitVec.ofNat w n) else none
  | none => none

/-- A packet type: one of the three names of R101, or a number 0..255 (R102). -/
def packetType (chars : List Char) : Option Byte :=
  if chars = "DATA".toList then some 0x00
  else if chars = "ACK".toList then some 0x01
  else if chars = "ACK_RESP".toList then some 0x02
  else boundedNumber 8 chars

/-- The bytes of a bracketed list, up to the closing bracket, which ends the line (R102). -/
def hexBytes : List Token → Option (List Byte)
  | [.closeBracket] => some []
  | .word chars :: rest =>
    match digitsValue 16 0 chars with
    | some n =>
      if n < 256 then
        match hexBytes rest with
        | some bytes => some (BitVec.ofNat 8 n :: bytes)
        | none => none
      else none
    | none => none
  | _ => none

/-- The pseudo-commands of R103. -/
inductive Pseudo where
  /-- `SEND r, t, [payload]`: the source's blocking `submit(packet)`. -/
  | send (receiver : Addr) (type : Byte) (payload : List Byte)
  /-- `RECEIVE`: exactly CONSUME. -/
  | receive
  /-- `WAIT_TICKS k`: `k` copies of TICK_RX. -/
  | waitTicks (k : Nat)
  deriving DecidableEq, Repr

/-- What one line says. -/
inductive AsmLine where
  | blank
  | command (i : Instr)
  | pseudo (p : Pseudo)
  | event (e : Input)
  deriving DecidableEq, Repr

/-- The operands `r, t, [payload]` of SUBMIT and SEND, with exactly `PAYLOAD_LEN` bytes (R102). -/
def submitOperands (c : Config) : List Token → Option (Addr × Byte × List Byte)
  | .word r :: .comma :: .word t :: .comma :: .openBracket :: rest =>
    match boundedNumber 16 r, packetType t, hexBytes rest with
    | some receiver, some type, some payload =>
      if payload.length = c.payloadLen then some (receiver, type, payload) else none
    | _, _, _ => none
  | _ => none

/-- A mnemonic without an operand (R102). -/
def plainMnemonic (chars : List Char) : Option AsmLine :=
  if chars = "POWER_UP".toList then some (.command .powerUp)
  else if chars = "POWER_DOWN".toList then some (.command .powerDown)
  else if chars = "TICK_RX".toList then some (.command .tickRx)
  else if chars = "TICK_TX".toList then some (.command .tickTx)
  else if chars = "COLLECT".toList then some (.command .collect)
  else if chars = "CONSUME".toList then some (.command .consume)
  else if chars = "READ_STATUS".toList then some (.command .readStatus)
  else if chars = "READ_TIMERS".toList then some (.command .readTimers)
  else if chars = "READ_ACK".toList then some (.command .readAck)
  else if chars = "READ_CONFIG".toList then some (.command .readConfig)
  else if chars = "RECEIVE".toList then some (.pseudo .receive)
  else if chars = "@txdone".toList then some (.event (.txActive false))
  else none

/-- One line of the assembler syntax, with what stands after its first word (R102, R103). -/
def asmTokens (c : Config) : List Token → Option AsmLine
  | [] => some .blank
  | [.word m] => plainMnemonic m
  | .word m :: rest =>
    if m = "SET_ADDRESS".toList then
      match rest with
      | [.word a] => (boundedNumber 16 a).map fun addr => .command (.setAddress addr)
      | _ => none
    else if m = "SUBMIT".toList then
      (submitOperands c rest).map fun o => .command (.submit o.1 o.2.1 o.2.2)
    else if m = "SEND".toList then
      (submitOperands c rest).map fun o => .pseudo (.send o.1 o.2.1 o.2.2)
    else if m = "WAIT_TICKS".toList then
      match rest with
      | [.word k] => (number k).map fun n => .pseudo (.waitTicks n)
      | _ => none
    else if m = "@rxq".toList then
      match rest with
      | .openBracket :: bytes =>
        match hexBytes bytes with
        | some f => if f.length = c.frameLen then some (.event (.frame f)) else none
        | none => none
      | _ => none
    else if m = "@cs".toList then
      match rest with
      | [.word a] =>
        if a = "busy".toList then some (.event (.carrier true))
        else if a = "free".toList then some (.event (.carrier false))
        else none
      | _ => none
    else none
  | _ => none

/-- One line of text (R102). -/
def asmLine (c : Config) (line : String) : Option AsmLine := asmTokens c (tokens [] line.toList)

/-- A command as the host gives it at the command interface (R90). -/
def Input.ofInstr (i : Instr) : Input := .command (encode i).1 (encode i).2

/-- What a line gives the machine; SEND is no fixed sequence (R103), so it gives none. -/
def AsmLine.inputs : AsmLine → Option (List Input)
  | .blank => some []
  | .command i => some [Input.ofInstr i]
  | .event e => some [e]
  | .pseudo .receive => some [Input.ofInstr .consume]
  | .pseudo (.waitTicks k) => some (List.replicate k (Input.ofInstr .tickRx))
  | .pseudo (.send _ _ _) => none

/-- The inputs of a program without SEND, line by line (R102). -/
def assemble (c : Config) : List String → Option (List Input)
  | [] => some []
  | line :: lines =>
    match asmLine c line with
    | some a =>
      match a.inputs, assemble c lines with
      | some first, some rest => some (first ++ rest)
      | _, _ => none
    | none => none

/-- Where the host stands in SEND (R103). -/
inductive SendPhase where
  /-- SUBMIT is given, its result not read yet. -/
  | submitting
  /-- The host repeats COLLECT, with TICK_RX and TICK_TX between. -/
  | collecting
  /-- SEND has returned this code. -/
  | done (code : Byte)
  deriving DecidableEq, Repr

/-- The command SEND gives next. -/
def SendPhase.command (receiver : Addr) (type : Byte) (payload : List Byte) : SendPhase → Option Instr
  | .submitting => some (.submit receiver type payload)
  | .collecting => some .collect
  | .done _ => none

/-- What SEND makes of the result of its own command (R103): `BUSY` of SUBMIT, and `SUCCEEDED` or `TIMED_OUT` of COLLECT,
are returned; otherwise it goes on with COLLECT. -/
def SendPhase.afterResult (res : Word) : SendPhase → SendPhase
  | .submitting => if res.extractLsb' 0 8 = (0x01 : Byte) then .done 0x01 else .collecting
  | .collecting =>
    if res.extractLsb' 0 8 = (0x02 : Byte) then .done 0x02
    else if res.extractLsb' 0 8 = (0x03 : Byte) then .done 0x03
    else .collecting
  | .done code => .done code

end Sys2Proof.Machine
end

