-- ==== Sys2Proof/Tests/Slice0.lean ====
section
/-! SUPPORT. Tests on fixed values, each expected value from the spec (95_test_vectors.md, 30_encoding.md R104), and for
each statement with hypotheses a witness that meets them all. -/

namespace Sys2Proof.Tests

open Sys2Proof.Machine

/-- The next state, if there is one. -/
def nextOf : Result → Option State
  | .next t => some t
  | .fault _ => none
  | .refused _ => none

/-- The name of a refusal, if there is one. -/
def refusalOf : Result → Option Refusal
  | .next _ => none
  | .fault _ => none
  | .refused r => some r

/-- The last result word, data phase included. -/
def lastAnswer (s : State) : Option (Word × List Byte) := s.responses.getLast?.map fun r => (r.word, r.data)

/-- A node with address 1, a free channel, and a Transceiver that is not active. -/
def node : State :=
  { State.reset with myAddr := 1, addrSet := true, carrier := [false], txAnswers := [false, false] }

/-- The node of the vectors of 95_test_vectors.md section 2.6. -/
def sender : State :=
  { node with txFrame := [1, 0, 2, 0, 1, 0, 0xDE, 0xAD, 0xBE, 0xEF], txSeq := 1, txState := .pending }

/-- A node whose transaction waits for its ack, with counter 7. -/
def waiting : State := { node with txState := .waitingForAck, txSeq := 7 }

/-- A staged ack to node 2, counter 7. -/
def staged (s : State) : State := { s with ackStaged := true, ackDst := 2, ackSeq := 7 }

/-- A DATA frame from 5 to everyone (V-RX-3), a foreign frame (V-RX-2), an ACK to 1 with counter 7, and one from another
node with a payload and kind ACK_RESP. -/
def multicastData : Frame := [5, 0, 0xFF, 0xFF, 0x22, 0, 1, 2, 3, 4]
def foreign : Frame := [5, 0, 3, 0, 0x10, 0, 0xAA, 0xAA, 0xAA, 0xAA]
def ack7 : Frame := [9, 0, 1, 0, 7, 1, 0, 0, 0, 0]
def ackResp7 : Frame := [8, 0, 1, 0, 7, 2, 0xAB, 0xCD, 0xEF, 1]

/-- The command interface shows this transfer next. -/
def offer (w : Word) (d : List Byte) (s : State) : State := { s with inputs := [.command w d] }

/-! ## Well-formed commands -/

theorem test_wellFormed_refuses_short_payload :
    (Instr.submit 2 0 [1, 2, 3]).wellFormed Config.default = false := by decide
theorem test_wellFormed_refuses_long_payload :
    (Instr.submit 2 0 [1, 2, 3, 4, 5]).wellFormed Config.default = false := by decide
theorem test_wellFormed_admits_payload : (Instr.submit 2 0 [1, 2, 3, 4]).wellFormed Config.default = true := by decide

/-! ## Decoding: words written out from R91 to R94 and R104 -/

theorem test_decode_setAddress : decode Config.default 0x00BEEF01 [] = .command (.setAddress 0xBEEF) := by decide
theorem test_decode_powerUp : decode Config.default 0x00000002 [] = .command .powerUp := by decide
theorem test_decode_powerDown : decode Config.default 0x00000003 [] = .command .powerDown := by decide
theorem test_decode_tickRx : decode Config.default 0x00000010 [] = .command .tickRx := by decide
theorem test_decode_tickTx : decode Config.default 0x00000011 [] = .command .tickTx := by decide
theorem test_decode_submit :
    decode Config.default 0x02FFFF20 [1, 2, 3, 4] = .command (.submit 0xFFFF 0x02 [1, 2, 3, 4]) := by decide
theorem test_decode_submit_fields :
    decode Config.default 0b10000001_0000000100000010_00100000#32 [0, 0, 0, 0] =
      .command (.submit 0x0102 0x81 [0, 0, 0, 0]) := by decide
theorem test_decode_collect : decode Config.default 0x00000021 [] = .command .collect := by decide
theorem test_decode_consume : decode Config.default 0x00000030 [] = .command .consume := by decide
theorem test_decode_readStatus : decode Config.default 0x00000040 [] = .command .readStatus := by decide
theorem test_decode_readTimers : decode Config.default 0x00000041 [] = .command .readTimers := by decide
theorem test_decode_readAck : decode Config.default 0x00000042 [] = .command .readAck := by decide
theorem test_decode_readConfig : decode Config.default 0x00000043 [] = .command .readConfig := by decide
theorem test_decode_reserved_fields :
    decode Config.default 0x00000110 [] = .rejected .reservedField ∧
      decode Config.default 0x01000001 [] = .rejected .reservedField ∧
      decode Config.default 0x00010040 [] = .rejected .reservedField := by decide
theorem test_decode_reserved_opcodes :
    decode Config.default 0x00000000 [] = .rejected .reservedOpcode ∧
      decode Config.default 0x000000FF [] = .rejected .reservedOpcode ∧
      decode Config.default 0x00000012 [] = .rejected .reservedOpcode := by decide
theorem test_decode_data_phase : decode Config.default 0x00000220 [1] = .rejected .dataPhase := by decide

/-! ## One command each (95_test_vectors.md) -/

theorem test_setAddress_assigns :
    (nextOf (exec (.setAddress 0xFFFF) State.reset)).map (fun t => (t.myAddr, t.addrSet)) = some (0xFFFF, true) := by
  decide
theorem test_setAddress_locked :
    (nextOf (exec (.setAddress 2) node)).map (fun t => (t.myAddr, lastAnswer t)) = some (1, some (0xE2, [])) := by decide
theorem test_powerUp : (nextOf (exec .powerUp State.reset)).map (fun t => t.xlog) = some [.powerUp] := by decide
theorem test_powerDown :
    (nextOf (exec .powerDown waiting)).map (fun t => (t.xlog, t.txState)) = some ([.powerDown], .waitingForAck) := by
  decide
theorem test_tickRx_data_V_RX_3 :
    (nextOf (exec .tickRx { node with rxq := [foreign, multicastData, ack7] })).map
      (fun t => (lastAnswer t, t.rxq, t.rxFrame, t.ackDst, t.ackSeq)) =
        some (some (0x00010200, []), [ack7], multicastData, 5, 0x22) := by decide
theorem test_tickRx_ack_V_RX_21 :
    (nextOf (exec .tickRx { waiting with tick := 9, ackDeadline := 10, rxq := [ack7] })).map
      (fun t => (lastAnswer t, t.txState, t.rxFull)) = some (some (0x000A0100, []), .succeeded, false) := by decide
theorem test_tickTx_burst_V_TX_9 :
    (nextOf (exec .tickTx (staged { sender with tick := 1 }))).map
      (fun t => (lastAnswer t, t.xlog, t.ackStaged, t.ackDeadline)) =
        some (some (0x00001A00, []), [.carrierSense false, .send [1, 0, 2, 0, 7, 1, 0, 0, 0, 0],
          .send [1, 0, 2, 0, 1, 0, 0xDE, 0xAD, 0xBE, 0xEF]], false, 11) := by decide
theorem test_tickTx_busy_V_TX_16 :
    (nextOf (exec .tickTx { sender with tick := 128, carrier := [true] })).map
      (fun t => (lastAnswer t, t.txState, t.retryDeadline)) = some (some (0x00000600, []), .waitingForChannel, 1) := by
  decide
theorem test_submit_V_SU_2 :
    (nextOf (exec (.submit 2 0 [0xDE, 0xAD, 0xBE, 0xEF]) { node with seqCtr := 255 })).map
      (fun t => (lastAnswer t, t.seqCtr, t.txFrame)) =
        some (some (0x00000000, []), 0, [1, 0, 2, 0, 0, 0, 0xDE, 0xAD, 0xBE, 0xEF]) := by decide
theorem test_submit_V_SU_5 :
    (nextOf (exec (.submit 2 0 [1, 2, 3, 4]) { node with txAnswers := [true] })).map
      (fun t => (lastAnswer t, t.seqCtr, t.txState)) = some (some (0x00000001, []), 0, .idle) := by decide
theorem test_collect_V_CO_2 :
    (nextOf (exec .collect { node with txState := .timedOut })).map (fun t => (lastAnswer t, t.txState)) =
      some (some (0x00000003, []), .idle) := by decide
theorem test_collect_V_CO_4 :
    (nextOf (exec .collect waiting)).map (fun t => (lastAnswer t, t.txState)) =
      some (some (0x00000004, []), .waitingForAck) := by decide
theorem test_consume_V_CN_1 :
    (nextOf (exec .consume { node with rxFull := true, rxFrame := multicastData, ackStaged := true })).map
      (fun t => (lastAnswer t, t.rxFull, t.ackStaged)) = some (some (0x00000007, multicastData), false, true) := by decide
theorem test_consume_V_CN_2 : (nextOf (exec .consume node)).bind lastAnswer = some (0x00000006, []) := by decide
theorem test_readStatus_P3 :
    (nextOf (exec .readStatus { node with tick := 3, rxFull := true, ackStaged := true })).bind lastAnswer =
      some (0x00033800, []) := by decide
theorem test_readTimers_V_CF_8 :
    (nextOf (exec .readTimers { node with txSeq := 1, ackDeadline := 19, retryDeadline := 9 })).bind lastAnswer =
      some (0x09130100, []) := by decide
theorem test_readAck_V_CF_9 :
    (nextOf (exec .readAck { node with ackDst := 5, ackSeq := 0x22 })).bind lastAnswer = some (0x22000500, []) := by decide
theorem test_readConfig_V_CF_10 :
    (nextOf (exec .readConfig { node with myAddr := 0xBEEF })).bind lastAnswer = some (0x00BEEF00, []) := by decide

/-! ## One step -/

/-- The host's own question: the next transfer is the one placed, and a step runs it. -/
theorem test_withFetchWord :
    (nextOf (step (State.reset.withFetchWord 32 0x00BEEF01))).map (fun t => (t.myAddr, lastAnswer t)) =
      some (0xBEEF, some (0, [])) := by decide
/-- V-DE-7: an illegal word is `ERR_ILLEGAL` also before SET_ADDRESS (R224). -/
theorem test_step_illegal :
    (nextOf (step (offer 0x00000110 [] State.reset))).map (fun t => (t.tick, lastAnswer t)) =
      some (0, some (0xE0, [])) := by decide
theorem test_step_refuses_data_phase :
    refusalOf (step (offer 0x00000220 [1, 2, 3] node)) = some .dataPhase := by decide
theorem test_step_refuses_frame_length :
    refusalOf (step { node with inputs := [.frame [1, 2, 3]] }) = some .frameLength := by decide
theorem test_step_frame_arrives :
    (nextOf (step { node with inputs := [.frame foreign], rxq := [ack7] })).map (fun t => t.rxq) =
      some [ack7, foreign] := by decide

/-- R203, R233: POWER_DOWN keeps the queue, and the environment may then lose a frame of it (log 25). -/
theorem test_step_powerDown_then_loss :
    (nextOf (step { node with inputs := [.command 0x03 [], .lose 0], rxq := [ack7, foreign] })).map
        (fun t => (t.rxq, t.inputs)) = some ([ack7, foreign], [.lose 0]) ∧
      (nextOf (step { node with inputs := [.lose 0], rxq := [ack7, foreign] })).map (fun t => t.rxq) =
        some [foreign] := by decide

/-! ## The assembler syntax (R102 to R104) -/

theorem test_asm_setAddress :
    asmLine Config.default "SET_ADDRESS 0xBEEF ; a comment" = some (.command (.setAddress 0xBEEF)) := by decide
theorem test_asm_submit :
    asmLine Config.default "SUBMIT 0xFFFF, ACK_RESP, [01 02 03 fF]" =
      some (.command (.submit 0xFFFF 0x02 [1, 2, 3, 0xFF])) := by decide
theorem test_asm_events :
    assemble Config.default ["@cs busy", "@rxq [05 00 03 00 10 00 AA AA AA AA]", "@txdone", "WAIT_TICKS 2", "RECEIVE"] =
      some [.carrier true, .frame foreign, .txActive false, .command 0x10 [], .command 0x10 [], .command 0x30 []] := by
  decide
theorem test_asm_refuses :
    asmLine Config.default "SUBMIT 2, DATA, [01 02 03]" = none ∧ asmLine Config.default "TICK_RX 1" = none ∧
      asmLine Config.default "SET_ADDRESS 65536" = none := by decide

/-! ## Witnesses: the hypotheses of each statement can be met together -/

theorem witness_DecodeOfEncode : (Instr.submit 0xFFFF 0xFF [1, 2, 3, 4]).wellFormed Config.default = true := by decide
theorem witness_DecoderAcceptsOnlyEncodings :
    decode Config.default 0xFFFFFF20 [1, 2, 3, 4] = .command (.submit 0xFFFF 0xFF [1, 2, 3, 4]) := by decide
/-- One accepted word of each format, and one of each just outside its mask. -/
theorem witness_DecoderMasks :
    decode Config.default 0x00000043 [] = .command .readConfig ∧
      decode Config.default 0x00FFFF01 [] = .command (.setAddress 0xFFFF) ∧
      decode Config.default 0xFF000020 [1, 2, 3, 4] = .command (.submit 0 0xFF [1, 2, 3, 4]) ∧
      decode Config.default 0x00000143 [] = .rejected .reservedField ∧
      decode Config.default 0x01FFFF01 [] = .rejected .reservedField := by decide
theorem witness_SpelledOutWords : ([0, 0, 0, 0] : List Byte).length = Config.default.payloadLen := by decide

/-- The reserved opcodes at both ends of each range of R96, and one word with each reserved field. -/
theorem witness_IllegalWords :
    ∀ w ∈ [0x00, 0x04, 0x0F, 0x12, 0x1F, 0x22, 0x2F, 0x31, 0x3F, 0x44, 0xFF, 0x01000001, 0x00000110, (0xFFFFFF43 : Word)],
      offered (offer w [] node) w [] [] ∧
        (let op := (w.extractLsb' 0 8).toNat;
          (op = 0 ∨ (0x04 ≤ op ∧ op ≤ 0x0F) ∨ (0x12 ≤ op ∧ op ≤ 0x1F) ∨ (0x22 ≤ op ∧ op ≤ 0x2F) ∨
            (0x31 ≤ op ∧ op ≤ 0x3F) ∨ 0x44 ≤ op ∨
            (op = 0x01 ∧ w.extractLsb' 24 8 ≠ 0) ∨
            (op ≠ 0x01 ∧ op ≠ 0x20 ∧ w.extractLsb' 8 24 ≠ 0))) := by
  intro w hw
  refine ⟨⟨rfl, rfl⟩, ?_⟩
  simp only [List.mem_cons, List.not_mem_nil, or_false] at hw
  rcases hw with rfl | rfl | rfl | rfl | rfl | rfl | rfl | rfl | rfl | rfl | rfl | rfl | rfl | rfl <;> decide

theorem witness_StepRuns :
    offered (offer 0x00000011 [] sender) 0x00000011 [] [] ∧
      decode (offer 0x00000011 [] sender).cfg 0x00000011 [] = .command .tickTx := by decide

/-- A TICK_TX held with both frames pushed, and one held with a stand-alone ack. -/
def heldBurst : State :=
  { sender with txAnswers := [true], held := some ⟨true, ⟨false, true, false, true, true⟩⟩ }
def heldAck : State :=
  { node with txAnswers := [true], held := some ⟨false, ⟨false, true, false, true, false⟩⟩ }

theorem witness_Held_starts :
    (∃ t, exec .tickTx { sender with txAnswers := [true] } = .next t ∧
      t.held ≠ { sender with txAnswers := [true] }.held) := ⟨_, rfl, by decide⟩
theorem witness_Held_waits :
    (∃ h, heldBurst.held = some h ∧ txActiveAnswer heldBurst = true ∧ heldBurst.inputs = []) ∧
      (∃ h, (offer 0x10 [] heldAck).held = some h ∧ txActiveAnswer (offer 0x10 [] heldAck) = true ∧
        ∃ word data rest, (offer 0x10 [] heldAck).inputs = .command word data :: rest) :=
  ⟨⟨_, rfl, rfl, rfl⟩, ⟨_, rfl, rfl, _, _, _, rfl⟩⟩
/-- Each kind of event, met during a hold. -/
theorem witness_Held_events :
    ∀ e ∈ [Input.frame foreign, .lose 0, .carrier true, .txActive false],
      { heldBurst with inputs := [e] }.inputs = e :: [] ∧ IsEvent { heldBurst with inputs := [e] }.cfg e := by
  intro e he
  simp only [List.mem_cons, List.not_mem_nil, or_false] at he
  rcases he with rfl | rfl | rfl | rfl <;> exact ⟨rfl, by simp only [IsEvent] <;> rfl⟩
/-- A data phase one byte short and one byte long, one where there is none, and a frame one byte short and one long. -/
theorem witness_AnotherLength :
    (∀ d ∈ [[1, 2, 3], ([1, 2, 3, 4, 5] : List Byte)],
      (Instr.submit 2 0 [1, 2, 3, 4]).wellFormed node.cfg = true ∧
        offered (offer 0x00000220 d node) (encode (.submit 2 0 [1, 2, 3, 4])).1 d [] ∧ d.length ≠ 4) ∧
      (Instr.collect.wellFormed node.cfg = true ∧ offered (offer 0x21 [0] node) (encode .collect).1 [0] [] ∧
        ([0] : List Byte).length ≠ (encode .collect).2.length) ∧
      (∀ f ∈ [[5, 0, 3, 0, 0x10, 0, 1, 2, 3], ([5, 0, 3, 0, 0x10, 0, 1, 2, 3, 4, 5] : Frame)],
        f.length ≠ node.cfg.frameLen) := by decide
theorem witness_Held_ends :
    (∃ h, { heldBurst with txAnswers := [false] }.held = some h ∧ h.elig = true ∧
        txActiveAnswer { heldBurst with txAnswers := [false] } = false ∧ heldBurst.inputs = []) ∧
      (∃ h, { heldAck with txAnswers := [false] }.held = some h ∧ h.elig = false ∧
        txActiveAnswer { heldAck with txAnswers := [false] } = false ∧ heldAck.inputs = []) :=
  ⟨⟨_, rfl, rfl, rfl, rfl⟩, ⟨_, rfl, rfl, rfl, rfl⟩⟩
theorem witness_Reset : { heldBurst with inputs := [.reset] }.inputs = .reset :: [] := rfl
theorem witness_OnlyReset :
    (∃ t, step (offer 0x10 [] node) = .next t) ∧ (offer 0x10 [] node).addrSet = true ∧
      (∃ t, step { node with inputs := [.reset] } = .next t ∧ t.addrSet = false) :=
  ⟨⟨_, rfl⟩, rfl, ⟨_, rfl, rfl⟩⟩
theorem witness_ReceiveQueue :
    (∃ t, step (offer 0x10 [] { node with rxq := [foreign, ack7] }) = .next t) ∧
      (∃ t, step { node with inputs := [.frame foreign] } = .next t) ∧
      (∃ t, step { node with inputs := [.lose 0], rxq := [foreign] } = .next t ∧ t.rxq = []) :=
  ⟨⟨_, rfl⟩, ⟨_, rfl⟩, ⟨_, rfl, rfl⟩⟩
theorem witness_OneResult :
    (∃ t, exec .collect node = .next t) ∧
      (∃ t, exec .tickTx { sender with txAnswers := [true] } = .next t ∧ t.held ≠ none) :=
  ⟨⟨_, rfl⟩, ⟨_, rfl, by decide⟩⟩
theorem witness_Unconfigured :
    (∀ p ∈ [((0x10 : Word), ([] : List Byte), Instr.tickRx), (0x11, [], .tickTx), (0x220, [1, 2, 3, 4], .submit 2 0 [1, 2, 3, 4]),
        (0x21, [], .collect), (0x30, [], .consume)],
      offered (offer p.1 p.2.1 State.reset) p.1 p.2.1 [] ∧
        decode (offer p.1 p.2.1 State.reset).cfg p.1 p.2.1 = .command p.2.2 ∧
        (offer p.1 p.2.1 State.reset).addrSet = false ∧
        p.2.2.opcode ∈ [.tickRx, .tickTx, .submit, .collect, .consume]) := by decide
theorem witness_Unconfigured_others :
    (∃ t, exec (.setAddress 1) State.reset = .next t) ∧
      (Instr.setAddress 1).opcode ∈
        [.setAddress, .powerUp, .powerDown, .readStatus, .readTimers, .readAck, .readConfig] := ⟨⟨_, rfl⟩, by decide⟩
theorem witness_Registers : ∃ t, exec .tickTx (staged sender) = .next t := ⟨_, rfl⟩
theorem witness_SetAddress : State.reset.addrSet = false ∧ node.addrSet = true := by decide
theorem witness_AcceptedSubmit :
    node.addrSet = true ∧ node.txState = .idle ∧ txActiveAnswer node = false := by decide
theorem witness_BusySubmit :
    (waiting.addrSet = true ∧ waiting.txState ≠ .idle) ∧
      ({ node with txAnswers := [true] }.addrSet = true ∧ txActiveAnswer { node with txAnswers := [true] } = true) := by
  decide
theorem witness_Collect :
    State.reset.addrSet = false ∧ node.addrSet = true ∧ { node with txState := .succeeded }.addrSet = true := by decide
theorem witness_Consume :
    State.reset.addrSet = false ∧ node.addrSet = true ∧ node.rxFull = false ∧ { node with rxFull := true }.rxFull = true := by
  decide
theorem witness_Terminal :
    (∃ t, step (offer 0x11 [] { node with txState := .timedOut }) = .next t) ∧
      (offer 0x11 [] { node with txState := .timedOut }).HoldConsistent ∧
      (offer 0x11 [] { node with txState := .timedOut }).txState = .timedOut :=
  ⟨⟨_, rfl⟩, by simp [State.HoldConsistent, offer, node, State.reset, State.resetWith], rfl⟩
theorem witness_OccupiedSlot :
    ∃ t, step (offer 0x10 [] { node with rxFull := true, rxq := [multicastData] }) = .next t ∧
      (offer 0x10 [] { node with rxFull := true, rxq := [multicastData] }).rxFull = true ∧ t.rxFull = true :=
  ⟨_, rfl, rfl, rfl⟩
theorem witness_TickRx : node.addrSet = true ∧ node.rxFull = false ∧ { node with rxFull := true }.rxFull = true := by
  decide
theorem witness_ForeignFrame :
    { node with rxq := [foreign] }.rxFull = false ∧ { node with rxq := [foreign] }.rxq = foreign :: [] ∧
      receiverOf foreign ≠ node.myAddr ∧ receiverOf foreign ≠ node.cfg.multicastAddr := by decide
theorem witness_AckPayload :
    { waiting with rxq := [foreign, ack7, multicastData] }.rxq = [foreign] ++ ack7 :: [multicastData] ∧
      isAckFrame ack7 = true ∧ isAckFrame ackResp7 = true ∧ receiverOf ackResp7 = receiverOf ack7 ∧
      seqOf ackResp7 = seqOf ack7 := by decide
theorem witness_TimesOut :
    { waiting with tick := 10, ackDeadline := 10 }.addrSet = true ∧
      { waiting with tick := 9, ackDeadline := 10 }.addrSet = true ∧
      { waiting with tick := 9, ackDeadline := 10 }.tick ≠ 10 := by decide
theorem witness_NothingToSend :
    waiting.addrSet = true ∧ waiting.txState ≠ .pending ∧
      (waiting.txState = .waitingForChannel → waiting.tick ≠ waiting.retryDeadline) ∧
      (waiting.ackStaged = false ∨ waiting.cfg.standaloneAck = false) := by decide
theorem witness_BusyChannel :
    { sender with carrier := [true] }.addrSet = true ∧ { sender with carrier := [true] }.txState = .pending ∧
      busyAnswer { sender with carrier := [true] } = true ∧
      ({ sender with txState := .waitingForChannel, tick := 9, retryDeadline := 9 }.tick = 9) := by decide
theorem witness_DefaultBackoff : Config.default.backoffMask = 0xFC := by decide
theorem witness_FreeChannel :
    (staged sender).addrSet = true ∧ (staged sender).txState = .pending ∧ busyAnswer (staged sender) = false ∧
      txActiveAnswer (askBusy (staged sender)) = false ∧ (staged sender).held = none := by decide
theorem witness_FreeChannel_retry :
    let s := { sender with txState := .waitingForChannel, tick := 9, retryDeadline := 9 }
    s.addrSet = true ∧ s.txState = .waitingForChannel ∧ s.tick = s.retryDeadline ∧ busyAnswer s = false ∧
      txActiveAnswer (askBusy s) = false ∧ s.held = none := by decide
theorem witness_UnfinishedBurst :
    let s := { sender with txAnswers := [true] }
    s.addrSet = true ∧ s.txState = .pending ∧ busyAnswer s = false ∧ txActiveAnswer (askBusy s) = true := by decide
theorem witness_StandaloneAck :
    let s := staged { waiting with tick := 10, ackDeadline := 10 }
    let b := { s with carrier := [true] }
    let c := { s with cfg := { Config.default with standaloneAck := false } }
    s.addrSet = true ∧ s.ackStaged = true ∧ s.txState ≠ .pending ∧ s.txState ≠ .waitingForChannel ∧ s.held = none ∧
      s.cfg.standaloneAck = true ∧ busyAnswer s = false ∧ busyAnswer b = true ∧ c.cfg.standaloneAck = false := by decide

/-- A state in the middle of everything meets the invariant: a held burst, an occupied slot, a queued frame. -/
theorem witness_Inv :
    { heldBurst with rxFull := true, rxFrame := multicastData, rxq := [ack7] }.Inv ∧
      ∃ t, step { heldBurst with rxFull := true, rxFrame := multicastData, rxq := [ack7] } = .next t := by
  refine ⟨⟨by decide, by decide, by decide, ?_⟩, ⟨_, rfl⟩⟩
  intro h hh
  cases hh
  decide
/-- The row of TICK_RX: the ack that resolves the transaction is the last of the frames pulled. -/
theorem witness_TxMoves_tickRx :
    let s := { waiting with rxq := [foreign, ack7, multicastData], cfg := { Config.default with rxBurstMax := 2 } }
    ∃ t, exec .tickRx s = .next t ∧ TxMove .tickRx s t :=
  ⟨_, rfl, rfl, ⟨rfl, 2, by decide, rfl, rfl, ack7, by decide, rfl⟩, rfl⟩
/-- A TICK_TX at the retry tick on a busy channel, another one before the retry tick on a free channel that sends a
stand-alone ack and is held, and an arriving frame. -/
theorem witness_DeferredTransaction :
    let s := { node with txState := .waitingForChannel, tick := 9, retryDeadline := 9, carrier := [true] }
    (∃ t, step (offer 0x11 [] s) = .next t) ∧ busyAnswer (offer 0x11 [] s) = true ∧
      (∃ t, step (offer 0x11 [] (staged { s with tick := 8, carrier := [false], txAnswers := [true] })) = .next t ∧
        t.held ≠ none) ∧
      (∃ t, step { s with inputs := [.frame foreign] } = .next t) ∧ s.txState = .waitingForChannel ∧ s.held = none :=
  ⟨⟨_, rfl⟩, rfl, ⟨_, rfl, by decide⟩, ⟨_, rfl⟩, rfl, rfl⟩
theorem witness_TxMoves :
    (∃ t, step (offer 0x11 [] sender) = .next t ∧ t.txState ≠ (offer 0x11 [] sender).txState) ∧
      (offer 0x11 [] sender).HoldConsistent :=
  ⟨⟨_, rfl, by decide⟩, by simp [State.HoldConsistent, offer, sender, node, State.reset, State.resetWith]⟩
theorem witness_Logs : ∃ t, step (offer 0x11 [] (staged sender)) = .next t := ⟨_, rfl⟩
/-- Commands and events of every kind, reset and a free channel apart. -/
theorem witness_BusyChannelStarves_any_input :
    let s := { node with
      txState := .waitingForChannel, carrier := [true, true, true],
      inputs := [.command 0x00000030 [], .frame foreign, .command 0x00000011 []] }
    s.txState = .waitingForChannel ∧ s.held = none ∧ (∀ b ∈ s.carrier, b = true) ∧ 3 ≤ s.carrier.length ∧
      (∀ i ∈ s.inputs, i ≠ .reset ∧ i ≠ .carrier false) ∧ ∃ t, Sys2Proof.core.run 3 s = .next t :=
  ⟨rfl, rfl, by decide, by decide, by decide, ⟨_, rfl⟩⟩
theorem witness_BusyChannelStarves :
    let s := { node with
      txState := .waitingForChannel, carrier := [true, true],
      inputs := [.command 0x00000010 [], .command 0x00000011 []] }
    s.addrSet = true ∧ s.txState = .waitingForChannel ∧ s.held = none ∧ (∀ b ∈ s.carrier, b = true) ∧
      s.inputs.length = 2 ∧ 2 ≤ s.carrier.length ∧
      (∀ i ∈ s.inputs, i = .command 0x00000010 [] ∨ i = .command 0x00000011 []) := by decide
/-- The shortest deadline of the statement, the last one ahead of the clock, and the one equal to it. -/
theorem witness_UnansweredTransaction :
    ∀ d ∈ [1, 255, 256],
      let s := { waiting with
        tick := 3, ackDeadline := 3 + BitVec.ofNat 8 d,
        inputs := (List.replicate d [Input.command 0x00000010 [], Input.command 0x00000011 []]).flatten }
      s.addrSet = true ∧ s.txState = .waitingForAck ∧ s.held = none ∧ s.ackStaged = false ∧ s.rxq = [] ∧ 1 ≤ d ∧
        d ≤ 256 ∧ s.ackDeadline = s.tick + BitVec.ofNat 8 d ∧
        s.inputs = (List.replicate d [Input.command 0x00000010 [], Input.command 0x00000011 []]).flatten := by
  intro d hd
  simp only [List.mem_cons, List.not_mem_nil, or_false] at hd
  rcases hd with rfl | rfl | rfl <;> exact ⟨rfl, rfl, rfl, rfl, rfl, by decide, by decide, rfl, rfl⟩

end Sys2Proof.Tests
end

section
/-! PROOFS. The frame layout (20_memory.md R73, R74). -/

namespace Sys2Proof.Machine

/-- Settles O6: the layout is what `makeFrame` writes byte by byte, and the accessors read those bytes back. -/
theorem frameLayoutIsLittleEndianAtTheOffsetsOfR74 :
    Obligations.FrameLayoutIsLittleEndianAtTheOffsetsOfR74 := by
  unfold Obligations.FrameLayoutIsLittleEndianAtTheOffsetsOfR74
  constructor
  · exact makeFrame_bytes
  · exact accessors_of_bytes

end Sys2Proof.Machine
end

section
/-! PROOFS. Illegal and spelled-out command words (30_encoding.md R92, R96, R104). -/

namespace Sys2Proof

/-- The ranges of `OP` that R96 reserves. -/
abbrev ReservedOp (op : Nat) : Prop :=
  op = 0 ∨ (0x04 ≤ op ∧ op ≤ 0x0F) ∨ (0x12 ≤ op ∧ op ≤ 0x1F) ∨ (0x22 ≤ op ∧ op ≤ 0x2F) ∨
    (0x31 ≤ op ∧ op ≤ 0x3F) ∨ 0x44 ≤ op

/-- A reserved field of R92 is not zero: `T8` for SET_ADDRESS, `CMD[31:8]` for every other word but SUBMIT's. -/
abbrev ReservedFieldSet (w : Word) : Prop :=
  ((opField w).toNat = 0x01 ∧ t8Field w ≠ 0) ∨
    ((opField w).toNat ≠ 0x01 ∧ (opField w).toNat ≠ 0x20 ∧ w.extractLsb' 8 24 ≠ 0)

theorem not_reservedOp_code (op : Opcode) : ¬ ReservedOp op.code.toNat := by cases op <;> decide

/-- SET_ADDRESS is the only opcode of format A (R94). -/
theorem format_eq_a_iff (op : Opcode) : op.format = .a ↔ op.code.toNat = 0x01 := by cases op <;> decide

/-- SUBMIT is the only opcode of format S (R94). -/
theorem format_eq_s_iff (op : Opcode) : op.format = .s ↔ op.code.toNat = 0x20 := by cases op <;> decide

theorem reservedClear_eq_false {w : Word} {op : Opcode} (hop : opField w = op.code) (hw : ReservedFieldSet w) :
    op.format.reservedClear w = false := by
  have ha := format_eq_a_iff op
  have hs := format_eq_s_iff op
  rw [← hop] at ha hs
  cases hf : op.format with
  | n =>
    obtain ⟨h1, -⟩ | ⟨-, -, hfield⟩ := hw
    · simp [hf, h1] at ha
    · simpa [Format.reservedClear] using hfield
  | a =>
    obtain ⟨-, hfield⟩ | ⟨h1, -, -⟩ := hw
    · simpa [Format.reservedClear] using hfield
    · exact absurd (ha.mp hf) h1
  | s =>
    have h20 := hs.mp hf
    omega

theorem decode_reservedOpcode {c : Config} {w : Word} {d : List Byte} (h : Opcode.ofByte (opField w) = none) :
    decode c w d = .rejected .reservedOpcode := by
  simp [decode, h]

theorem decode_reservedField {c : Config} {w : Word} {d : List Byte} (op : Opcode) (hop : opField w = op.code)
    (hclear : op.format.reservedClear w = false) : decode c w d = .rejected .reservedField := by
  simp [decode, hop, hclear]

/-- An illegal word of R96 is rejected as such, whatever data is attached to it. -/
theorem decode_illegal {w : Word} (hw : ReservedOp (opField w).toNat ∨ ReservedFieldSet w) (c : Config)
    (d : List Byte) : ∃ r, r ≠ .dataPhase ∧ decode c w d = .rejected r := by
  cases ho : Opcode.ofByte (opField w) with
  | none => exact ⟨.reservedOpcode, by decide, decode_reservedOpcode ho⟩
  | some op =>
    have hop := code_of_ofByte _ _ ho
    obtain hres | hfield := hw
    · exact absurd (hop ▸ hres) (not_reservedOp_code op)
    · exact ⟨.reservedField, by decide, decode_reservedField op hop (reservedClear_eq_false hop hfield)⟩

end Sys2Proof

namespace Sys2Proof.Machine

theorem step_of_rejected {s : State} {word : Word} {data : List Byte} {rest : List Input} {r : Rejection}
    (ho : offered s word data rest) (hd : decode s.cfg word data = .rejected r) :
    step s = rejectCommand r (setInputs rest s) := by
  obtain ⟨hinputs, hheld⟩ := ho
  simp [step, fetch, hinputs, hheld, hd]

theorem rejectCommand_illegal {r : Rejection} (hr : r ≠ .dataPhase) (s : State) :
    rejectCommand r s = .next (respond .errIllegal s) := by
  cases r with
  | reservedOpcode => rfl
  | reservedField => rfl
  | dataPhase => exact absurd rfl hr

/-- Taking a command word and answering it writes no register and asks nothing of the Transceiver (R96). -/
theorem respond_setInputs_frame (rc : ResultCode) (rest : List Input) (s : State) :
    sameRegisters s (respond rc (setInputs rest s)) ∧ sameTransceiver s (respond rc (setInputs rest s)) := by
  simp [sameRegisters, sameIdentity, sameSubmission, sameDeadlines, sameAck, sameInbound, sameTransceiver]

/-- Settles O5: the decoder rejects an illegal word by a name that `rejectCommand` answers with `ERR_ILLEGAL`, and
a response writes nothing else. -/
theorem illegalWordsAnswerErrIllegalAndDoNothing : Obligations.IllegalWordsAnswerErrIllegalAndDoNothing := by
  unfold Obligations.IllegalWordsAnswerErrIllegalAndDoNothing
  intro s word data rest ho op hillegal
  have hw : ReservedOp (opField word).toNat ∨ ReservedFieldSet word := by
    simp only [or_assoc]
    exact hillegal
  obtain ⟨r, hr, hd⟩ := decode_illegal hw s.cfg data
  have hstep : step s = .next (respond .errIllegal (setInputs rest s)) :=
    (step_of_rejected ho hd).trans (rejectCommand_illegal hr _)
  have hanswer : answers s (respond .errIllegal (setInputs rest s)) 0x000000E0 [] := rfl
  have ⟨hregisters, htransceiver⟩ := respond_setInputs_frame .errIllegal rest s
  exact ⟨_, hstep, hanswer, hregisters, htransceiver, by simp, by simp [ho.2], by simp⟩

/-- Settles O4: each word's fields name its row of R94, and each illegal one has a non-zero reserved field. -/
theorem spelledOutWordsDecodeAsR104Says : Obligations.SpelledOutWordsDecodeAsR104Says := by
  unfold Obligations.SpelledOutWordsDecodeAsR104Says
  intro c p hp
  exact ⟨decode_of_fields .setAddress rfl rfl rfl, decode_of_fields .setAddress rfl rfl rfl,
    decode_of_fields .tickRx rfl rfl rfl, decode_of_fields .tickTx rfl rfl rfl,
    decode_of_fields .submit rfl rfl hp, decode_of_fields .submit rfl rfl hp,
    decode_of_fields .collect rfl rfl rfl, decode_of_fields .consume rfl rfl rfl,
    decode_of_fields .readStatus rfl rfl rfl,
    decode_reservedField .tickRx rfl rfl, decode_reservedField .setAddress rfl rfl⟩

end Sys2Proof.Machine
end

section
/-! PROOFS. The Receive Drainer: foreign frames and the parts of an acknowledgement that are never consulted
(41_receive_drainer.md R123, R124, R132, R133). -/

namespace Sys2Proof.Machine

/-- The filter's answer to a foreign frame (R123, R124). -/
theorem receiveFrame_of_foreign {f : Frame} {s : State} (hme : receiverOf f ≠ s.myAddr)
    (hmulti : receiverOf f ≠ s.cfg.multicastAddr) : receiveFrame f s = s := by
  simp [receiveFrame, addressedTo, hme, hmulti]

/-- Settles O30: the pulled frame changes nothing, so the loop goes on from the state its pull left. -/
theorem foreignFrameIsCountedAndDropped : Obligations.ForeignFrameIsCountedAndDropped := by
  unfold Obligations.ForeignFrameIsCountedAndDropped
  intro s f rest budget hslot hq hme hmulti u
  have hdrop : receiveFrame f (xPop f rest s) = u := receiveFrame_of_foreign hme hmulti
  rw [drain_cons budget s f rest hslot hq, hdrop]
  exact ⟨rfl, rfl⟩

/-- The state with what the receive queue holds, and what was asked of the Transceiver, left out of account. -/
def eraseQueue (s : State) : State := { s with rxq := [], xlog := [] }

@[simp] theorem eraseQueue_fields (s : State) :
    (eraseQueue s).cfg = s.cfg ∧ (eraseQueue s).addrSet = s.addrSet ∧ (eraseQueue s).tick = s.tick ∧
      (eraseQueue s).rxFull = s.rxFull ∧ (eraseQueue s).responses = s.responses := ⟨rfl, rfl, rfl, rfl, rfl⟩

theorem eraseQueue_respondWith (rc : ResultCode) (data : BitVec 24) (phase : List Byte) (s : State) :
    eraseQueue (respondWith rc data phase s) = respondWith rc data phase (eraseQueue s) := rfl

theorem eraseQueue_clockStep (s : State) : eraseQueue (clockStep s) = clockStep (eraseQueue s) := rfl

/-- What one pulled frame does to the rest of the state depends neither on the frames behind it nor on the record. -/
theorem eraseQueue_receiveFrame_xPop (f g : Frame) (rest : List Frame) (s : State) :
    eraseQueue (receiveFrame f (xPop g rest s)) = receiveFrame f (eraseQueue s) := by
  have hmatch : eraseQueue (matchAck f (xPop g rest s)) = matchAck f (eraseQueue s) := by
    by_cases hwait : s.txState = .waitingForAck ∧ seqOf f = s.txSeq <;>
      simp [matchAck, eraseQueue, xPop, completeTransaction, hwait]
  by_cases haddr : addressedTo s.cfg s.myAddr f <;> by_cases hack : isAckFrame f <;>
    simp_all [receiveFrame, eraseQueue, xPop, acceptData]

/-- A pull takes the frame from the queue, whatever the frame then does. -/
theorem receiveFrame_xPop_rxq (f : Frame) (rest : List Frame) (s : State) :
    (receiveFrame f (xPop f rest s)).rxq = rest := by
  obtain ⟨-, e⟩ | ⟨-, -, -, e⟩ | ⟨-, -, e⟩ := receiveFrame_cases f (xPop f rest s) <;> simp [e]

theorem sameRegisters_of_eraseQueue_eq {s t : State} (h : eraseQueue s = eraseQueue t) : sameRegisters s t := by
  simp only [eraseQueue, State.mk.injEq] at h
  simp [sameRegisters, sameIdentity, sameSubmission, sameDeadlines, sameAck, sameInbound, h]

/-- Two frames that no state tells apart when it receives them. -/
def Interchangeable (f g : Frame) : Prop := ∀ s : State, receiveFrame f s = receiveFrame g s

theorem Interchangeable.refl (f : Frame) : Interchangeable f f := fun _ => rfl

/-- Of an acknowledgement the filter reads the receiver and the matcher the counter; nothing else is read
(R123, R127). -/
theorem interchangeable_of_ack {f g : Frame} (hf : isAckFrame f = true) (hg : isAckFrame g = true)
    (hreceiver : receiverOf g = receiverOf f) (hseq : seqOf g = seqOf f) : Interchangeable f g := by
  intro s
  simp [receiveFrame, addressedTo, matchAck, hf, hg, hreceiver, hseq]

/-- Interchangeable frames in the queue: the loop pulls as many and leaves the rest of the state the same. -/
theorem drain_congr (b : Nat) {s t : State} (hst : eraseQueue s = eraseQueue t)
    (hq : List.Forall₂ Interchangeable s.rxq t.rxq) :
    (drain b s).1 = (drain b t).1 ∧ eraseQueue (drain b s).2 = eraseQueue (drain b t).2 := by
  induction b generalizing s t with
  | zero => exact ⟨rfl, hst⟩
  | succ b ih =>
    have hslot : s.rxFull = t.rxFull := by simpa using congrArg State.rxFull hst
    cases hfull : s.rxFull with
    | true =>
      rw [drain_full _ s hfull, drain_full _ t (hslot ▸ hfull)]
      exact ⟨rfl, hst⟩
    | false =>
      cases hs : s.rxq with
      | nil =>
        rw [hs, List.forall₂_nil_left_iff] at hq
        rw [drain_empty _ s hs, drain_empty _ t hq]
        exact ⟨rfl, hst⟩
      | cons f rest =>
        rw [hs, List.forall₂_cons_left_iff] at hq
        obtain ⟨g, rest', hfg, hrest, ht⟩ := hq
        have hpull : eraseQueue (receiveFrame f (xPop f rest s)) = eraseQueue (receiveFrame g (xPop g rest' t)) := by
          rw [eraseQueue_receiveFrame_xPop, eraseQueue_receiveFrame_xPop, hst, hfg]
        have hloop := ih hpull (by simpa only [receiveFrame_xPop_rxq] using hrest)
        rw [drain_cons b s f rest hfull hs, drain_cons b t g rest' (hslot ▸ hfull) ht]
        exact ⟨congrArg (· + 1) hloop.1, hloop.2⟩

theorem execTickRx_unconfigured {s : State} (h : s.addrSet = false) :
    execTickRx s = .next (respond .errUnconfigured s) := by
  simp [execTickRx, whenConfigured, h]

theorem execTickRx_configured {s : State} (h : s.addrSet = true) :
    execTickRx s =
      .next (respondWith .ok
        (tickRxData (drain s.cfg.rxBurstMax (clockStep s)).1 (drain s.cfg.rxBurstMax (clockStep s)).2.tick) []
        (drain s.cfg.rxBurstMax (clockStep s)).2) := by
  simp [execTickRx, whenConfigured, h]

/-- Interchangeable frames in the queue: TICK_RX answers the same word and leaves the rest of the state the same. -/
theorem execTickRx_congr {s t : State} (hst : eraseQueue s = eraseQueue t)
    (hq : List.Forall₂ Interchangeable s.rxq t.rxq) :
    ∃ s' t', execTickRx s = .next s' ∧ execTickRx t = .next t' ∧ eraseQueue s' = eraseQueue t' := by
  have hconfigured : s.addrSet = t.addrSet := by simpa using congrArg State.addrSet hst
  have hcfg : s.cfg = t.cfg := by simpa using congrArg State.cfg hst
  cases hset : s.addrSet with
  | false =>
    refine ⟨_, _, execTickRx_unconfigured hset, execTickRx_unconfigured (hconfigured ▸ hset), ?_⟩
    simp only [respond, eraseQueue_respondWith, hst]
  | true =>
    have hclock : eraseQueue (clockStep s) = eraseQueue (clockStep t) := by
      rw [eraseQueue_clockStep, eraseQueue_clockStep, hst]
    obtain ⟨hcount, hafter⟩ := drain_congr s.cfg.rxBurstMax hclock hq
    have htick : (drain s.cfg.rxBurstMax (clockStep s)).2.tick = (drain s.cfg.rxBurstMax (clockStep t)).2.tick := by
      simpa using congrArg State.tick hafter
    refine ⟨_, _, execTickRx_configured hset, execTickRx_configured (hconfigured ▸ hset), ?_⟩
    rw [eraseQueue_respondWith, eraseQueue_respondWith, ← hcfg, hcount, htick, hafter]

/-- Settles O31: two such acknowledgements are interchangeable, and the queues differ in nothing else. -/
theorem ackPayloadSenderAndKindMakeNoDifference : Obligations.AckPayloadSenderAndKindMakeNoDifference := by
  unfold Obligations.AckPayloadSenderAndKindMakeNoDifference
  intro s before after f g hrxq hf hg hreceiver hseq
  have hfg : Interchangeable f g := interchangeable_of_ack hf hg hreceiver hseq
  have hsame (q : List Frame) : List.Forall₂ Interchangeable q q :=
    List.forall₂_same.mpr fun x _ => Interchangeable.refl x
  have hqueues : List.Forall₂ Interchangeable s.rxq (before ++ g :: after) :=
    hrxq ▸ List.rel_append (hsame before) (.cons hfg (hsame after))
  obtain ⟨t, u, ht, hu, htu⟩ := execTickRx_congr (s := s) (t := { s with rxq := before ++ g :: after }) rfl hqueues
  exact ⟨t, u, ht, hu, sameRegisters_of_eraseQueue_eq htu, by simpa using congrArg State.responses htu.symm⟩

end Sys2Proof.Machine
end

section
/-! PROOFS. The Transmit Attempter: the timeout check, and the two outcomes of an eligible TICK_TX
(42_transmit_attempter.md R155 to R160). -/

namespace Sys2Proof.Machine

theorem exec_tickTx (s : State) : exec .tickTx s = execTickTx s := rfl

theorem ackTimedOut_iff (s : State) :
    ackTimedOut s = true ↔ s.txState = .waitingForAck ∧ s.tick = s.ackDeadline := by
  simp [ackTimedOut]

theorem checkTimeout_of_due {s : State} (h : ackTimedOut s = true) : checkTimeout s = timeOutTransaction s := by
  simp [checkTimeout, h]

theorem checkTimeout_of_not_due {s : State} (h : ackTimedOut s = false) : checkTimeout s = s := by
  simp [checkTimeout, h]

/-- A timed-out transaction is terminal, so this TICK_TX does not attempt it (R151, R155). -/
theorem eligible_timeOutTransaction (s : State) : eligible (timeOutTransaction s) = false := by
  simp [eligible]

theorem txState_of_eligible {s : State} (h : eligible s = true) :
    s.txState ≠ .timedOut ∧ s.txState ≠ .waitingForAck := by
  obtain hstate | ⟨hstate, -⟩ := (eligible_iff s).mp h <;> simp [hstate]

/-- The retry timer runs only while the ack is awaited, where nothing is eligible (R151, R155). -/
theorem ackTimedOut_of_eligible {s : State} (h : eligible s = true) : ackTimedOut s = false := by
  simp [ackTimedOut, (txState_of_eligible h).2]

/-! ### The timeout (R155) -/

/-- One look at the Transceiver moves the transaction only when it ends an eligible TICK_TX's wait (R159, R162). -/
theorem awaitBurst_tick_txState (h : Hold) (s : State) :
    (awaitBurst h s).tick = s.tick ∧
      ((awaitBurst h s).txState = s.txState ∨ (h.elig = true ∧ (awaitBurst h s).txState = .waitingForAck)) := by
  obtain ⟨-, e⟩ | ⟨-, e⟩ := awaitBurst_cases h s
  · simp [e]
  · cases helig : h.elig <;> simp [e, helig]

/-- An attempt moves only an eligible transaction, and only to one of the two waiting states (R156, R159). -/
theorem attempt_tick_txState (timeout : Bool) (s : State) :
    (attempt timeout s).tick = s.tick ∧
      ((attempt timeout s).txState = s.txState ∨
        (eligible s = true ∧
          ((attempt timeout s).txState = .waitingForChannel ∨ (attempt timeout s).txState = .waitingForAck))) := by
  obtain ⟨-, e⟩ | ⟨-, e⟩ := attempt_cases timeout s
  · cases helig : eligible s <;> simp [e, helig]
  · obtain ⟨htick, hstate | ⟨helig, hstate⟩⟩ :=
      awaitBurst_tick_txState ⟨eligible s, ⟨timeout, true, false, s.ackStaged, eligible s⟩⟩
        (sendData (eligible s) (sendStagedAck (askBusy s)))
    · exact ⟨by simp [e, htick], .inl (by simp [e, hstate])⟩
    · exact ⟨by simp [e, htick], .inr ⟨helig, .inr (by rw [e, hstate])⟩⟩

/-- A configured TICK_TX leaves the transaction where the timeout check put it, unless it attempts it. -/
theorem execTickTx_tick_txState {s : State} (h : s.addrSet = true) :
    ∃ t, execTickTx s = .next t ∧ t.tick = s.tick ∧
      (t.txState = (checkTimeout s).txState ∨
        (eligible (checkTimeout s) = true ∧ (t.txState = .waitingForChannel ∨ t.txState = .waitingForAck))) := by
  obtain ⟨-, -, e⟩ | ⟨-, e⟩ := execTickTx_cases s h
  · exact ⟨_, e, by simp, .inl (by simp)⟩
  · obtain ⟨htick, hmove⟩ := attempt_tick_txState (ackTimedOut s) (checkTimeout s)
    exact ⟨_, e, by simp [htick], hmove⟩

/-- Settles O32: a due timeout leaves nothing to attempt; without one, only a pending or deferred transaction moves,
and not to `TIMED_OUT`. -/
theorem tickTxTimesOutExactlyAtTheDeadline : Obligations.TickTxTimesOutExactlyAtTheDeadline := by
  unfold Obligations.TickTxTimesOutExactlyAtTheDeadline
  intro s hset
  obtain ⟨t, ht, htick, hmove⟩ := execTickTx_tick_txState hset
  refine ⟨t, (exec_tickTx s).trans ht, htick, ?_⟩
  cases hdue : ackTimedOut s with
  | true =>
    obtain ⟨hwait, hdeadline⟩ := (ackTimedOut_iff s).mp hdue
    have hout : t.txState = .timedOut := by
      simpa [checkTimeout_of_due hdue, eligible_timeOutTransaction] using hmove
    simp [hout, hwait, hdeadline]
  | false =>
    have hnot : ¬ (s.txState = .waitingForAck ∧ s.tick = s.ackDeadline) := by
      simp [← ackTimedOut_iff, hdue]
    rw [checkTimeout_of_not_due hdue] at hmove
    obtain hkept | ⟨helig, hmoved⟩ := hmove
    · exact ⟨by simp [hkept, hnot], fun hwait _ => hkept.trans hwait⟩
    · obtain ⟨hnotOut, hnotWaiting⟩ := txState_of_eligible helig
      have hstays : t.txState ≠ .timedOut := by obtain hm | hm := hmoved <;> simp [hm]
      simp [hnotOut, hnotWaiting, hstays]

/-! ### An eligible TICK_TX (R156 to R160) -/

/-- The timeout check does nothing to an eligible TICK_TX, which goes straight to its attempt. -/
theorem exec_tickTx_of_eligible {s : State} (hset : s.addrSet = true) (h : eligible s = true) :
    exec .tickTx s = .next (attempt false s) := by
  have hdue := ackTimedOut_of_eligible h
  have hcases := execTickTx_cases s hset
  rw [checkTimeout_of_not_due hdue, hdue] at hcases
  obtain ⟨hnot, -, -⟩ | ⟨-, e⟩ := hcases
  · simp [h] at hnot
  · exact (exec_tickTx s).trans e

theorem attempt_of_busy {s : State} (timeout : Bool) (h : eligible s = true) (hbusy : busyAnswer s = true) :
    attempt timeout s =
      respondWith .ok (TxFlags.data ⟨timeout, true, true, false, false⟩) [] (deferTransaction (askBusy s)) := by
  obtain ⟨-, e⟩ | ⟨hfree, -⟩ := attempt_cases timeout s
  · simp [e, h]
  · simp [hbusy] at hfree

/-- The formula of R160, as a number. -/
theorem retryTick_toNat (c : Config) (tick : Byte) :
    (retryTick c tick).toNat = (tick.toNat + 1 + (tick &&& c.backoffMask).toNat) % 256 := by
  simp [retryTick, BitVec.toNat_add]

/-- Settles O34: the attempt is one carrier sense, the deferral and the answer; each writes its own fields only. -/
theorem busyChannelDefersToTheRetryTick : Obligations.BusyChannelDefersToTheRetryTick := by
  unfold Obligations.BusyChannelDefersToTheRetryTick
  intro s hset hstate hbusy
  have helig : eligible s = true := (eligible_iff s).mpr hstate
  have hexec := exec_tickTx_of_eligible hset helig
  rw [attempt_of_busy false helig hbusy] at hexec
  have hword : resultWord .ok (TxFlags.data ⟨false, true, true, false, false⟩) = 0x00000600 := by decide
  refine ⟨_, hexec, ?_⟩
  simp [retryTick_toNat, hword, hbusy, answers, sameIdentity, sameSubmission, sameAck, sameInbound, sameRun]

/-- With a free channel and a Transceiver that reports completion, TICK_TX ends at once (R157, R162). -/
theorem attempt_of_free {s : State} (timeout : Bool) (h : eligible s = true) (hfree : busyAnswer s = false)
    (hdone : txActiveAnswer (askBusy s) = false) :
    attempt timeout s =
      finishBurst ⟨true, ⟨timeout, true, false, s.ackStaged, true⟩⟩
        (askTxActive (sendData true (sendStagedAck (askBusy s)))) := by
  obtain ⟨hbusy, -⟩ | ⟨-, e⟩ := attempt_cases timeout s
  · simp [hfree] at hbusy
  · rw [e, h]
    obtain ⟨hactive, -⟩ | ⟨-, hend⟩ := awaitBurst_cases
      ⟨true, ⟨timeout, true, false, s.ackStaged, true⟩⟩ (sendData true (sendStagedAck (askBusy s)))
    · simp [hdone] at hactive
    · exact hend

@[simp] theorem ackFrame_askBusy (s : State) : ackFrame (askBusy s) = ackFrame s := by
  simp [ackFrame]

/-- Every field of the ack frame, and its length (R158, R74). -/
theorem ackFrame_fields (s : State) :
    senderOf (ackFrame s) = s.myAddr ∧ receiverOf (ackFrame s) = s.ackDst ∧ seqOf (ackFrame s) = s.ackSeq ∧
      typeOf (ackFrame s) = 0x01 ∧ payloadOf (ackFrame s) = List.replicate s.cfg.payloadLen 0 ∧
      (ackFrame s).length = s.cfg.frameLen := by
  simp [ackFrame, typeAck, Config.frameLen]

/-- The result word of a completed burst with data: SENSED and DATA_SENT, and ACK_SENT if an ack was staged (R152). -/
theorem resultWord_burst (ackSent : Bool) :
    resultWord .ok (TxFlags.data ⟨false, true, false, ackSent, true⟩) =
      if ackSent then 0x00001A00 else 0x00001200 := by
  cases ackSent <;> decide

/-- Settles O36: the attempt is one carrier sense, the burst, and the end of TICK_TX; its ack is `ackFrame s`. -/
theorem freeChannelSendsTheBurstAndAwaitsTheAck : Obligations.FreeChannelSendsTheBurstAndAwaitsTheAck := by
  unfold Obligations.FreeChannelSendsTheBurstAndAwaitsTheAck
  intro s hset hstate hfree hdone hheld
  have helig : eligible s = true := (eligible_iff s).mpr hstate
  have hexec := exec_tickTx_of_eligible hset helig
  rw [attempt_of_free false helig hfree hdone] at hexec
  obtain ⟨hsender, hreceiver, hseq, htype, hpayload, hlength⟩ := ackFrame_fields s
  refine ⟨_, ackFrame s, hexec, hsender, hreceiver, hseq, htype, hpayload, hlength, ?_⟩
  simp [resultWord_burst, hfree, hheld, BitVec.toNat_add, answers, sameIdentity, sameSubmission, sameInbound,
    sameRun]

end Sys2Proof.Machine
end

section
/-! PROOFS. The Send Coordinator: a BUSY SUBMIT, COLLECT and CONSUME (43_send_coordinator.md R182, R184, R186). -/

namespace Sys2Proof.Machine

/-! ### The configuration gate (R223) -/

theorem whenConfigured_of_configured {s : State} (hset : s.addrSet = true) (run : Result) :
    whenConfigured s run = run := by
  simp [whenConfigured, hset]

theorem whenConfigured_of_unconfigured {s : State} (hset : s.addrSet = false) (run : Result) :
    whenConfigured s run = .next (respond .errUnconfigured s) := by
  simp [whenConfigured, hset]

/-- A result alone writes no register, asks nothing of the Transceiver and leaves the run as it is (R90). -/
theorem respond_frame (rc : ResultCode) (s : State) :
    sameRegisters s (respond rc s) ∧ sameTransceiver s (respond rc s) ∧ sameRun s (respond rc s) := by
  simp [sameRegisters, sameIdentity, sameSubmission, sameDeadlines, sameAck, sameInbound, sameTransceiver, sameRun]

/-- A gated command before SET_ADDRESS: `ERR_UNCONFIGURED`, and no other effect. -/
theorem whenConfigured_refuses {s : State} (hset : s.addrSet = false) (run : Result) :
    ∃ t, whenConfigured s run = .next t ∧ answers s t 0x000000E1 [] ∧ sameRegisters s t ∧ sameTransceiver s t ∧
      sameRun s t :=
  ⟨_, whenConfigured_of_unconfigured hset run, rfl, respond_frame .errUnconfigured s⟩

/-! ### SUBMIT (R182) -/

theorem exec_submit_of_transaction {s : State} (receiver : Addr) (type : Byte) (payload : List Byte)
    (hset : s.addrSet = true) (hstate : s.txState ≠ .idle) :
    exec (.submit receiver type payload) s = .next (respond .busy s) :=
  (whenConfigured_of_configured hset _).trans (if_pos hstate)

/-- With the slot free the Transceiver is asked, and that question is the only trace of a refusal (D23). -/
theorem exec_submit_of_transmitting {s : State} (receiver : Addr) (type : Byte) (payload : List Byte)
    (hset : s.addrSet = true) (hstate : s.txState = .idle) (hactive : txActiveAnswer s = true) :
    exec (.submit receiver type payload) s = .next (respond .busy (askTxActive s)) :=
  (whenConfigured_of_configured hset _).trans ((if_neg (not_not_intro hstate)).trans (if_pos hactive))

/-- Settles O22: the two reasons for BUSY; the second has used up one answer of the Transceiver, which is no
register. -/
theorem busySubmitWritesNoRegister : Obligations.BusySubmitWritesNoRegister := by
  unfold Obligations.BusySubmitWritesNoRegister
  intro s receiver type payload hset hbusy
  by_cases hstate : s.txState = .idle
  · have hactive : txActiveAnswer s = true := hbusy.resolve_left (not_not_intro hstate)
    refine ⟨_, exec_submit_of_transmitting receiver type payload hset hstate hactive, ?_⟩
    have hword : resultWord .busy 0#24 = 0x00000001#32 := by decide
    simp [hword, answers, sameRegisters, sameIdentity, sameSubmission, sameDeadlines, sameAck, sameInbound, sameRun]
  · obtain ⟨hregisters, ⟨hrxq, hcarrier, -, -, hxlog⟩, hrun⟩ := respond_frame .busy s
    exact ⟨_, exec_submit_of_transaction receiver type payload hset hstate, rfl, hregisters, hrxq, hcarrier, hxlog,
      hrun⟩

/-! ### COLLECT (R184) -/

/-- The result code COLLECT answers for each value of `TX_STATE` (R184). -/
def collectCode : TxState → ResultCode
  | .succeeded => .succeeded
  | .timedOut => .timedOut
  | .idle => .noTransaction
  | .pending => .notReady
  | .waitingForChannel => .notReady
  | .waitingForAck => .notReady

/-- A configured COLLECT answers the code of `TX_STATE`, and frees the slot exactly if that is terminal. -/
theorem exec_collect_cases {s : State} (hset : s.addrSet = true) :
    ((s.txState = .succeeded ∨ s.txState = .timedOut) ∧
        exec .collect s = .next (respond (collectCode s.txState) (freeTransaction s))) ∨
      (¬ (s.txState = .succeeded ∨ s.txState = .timedOut) ∧
        exec .collect s = .next (respond (collectCode s.txState) s)) := by
  have hexec : exec .collect s = execCollect s := rfl
  rw [hexec, execCollect, whenConfigured_of_configured hset]
  cases s.txState <;> simp [collectCode]

/-- Settles O23: the gate, then the terminal states apart from the others; the word is the code of the state. -/
theorem collectReturnsTheOutcomeAndFreesTheSlot : Obligations.CollectReturnsTheOutcomeAndFreesTheSlot := by
  unfold Obligations.CollectReturnsTheOutcomeAndFreesTheSlot
  intro s
  refine ⟨decode_of_fields .collect rfl rfl rfl, fun hset => whenConfigured_refuses hset _, fun hset => ?_⟩
  obtain ⟨hterminal, e⟩ | ⟨hnot, e⟩ := exec_collect_cases hset
  · refine ⟨_, e, by cases s.txState <;> rfl, ?_⟩
    simp [hterminal, sameIdentity, sameSubmission, sameDeadlines, sameAck, sameInbound, sameTransceiver, sameRun]
  · obtain ⟨⟨hid, htick, hstate, hsub, hdl, hack, hin⟩, htransceiver, hrun⟩ := respond_frame (collectCode s.txState) s
    exact ⟨_, e, by cases s.txState <;> rfl, hstate.trans (if_neg hnot).symm, hid, htick, hsub, hdl, hack, hin,
      htransceiver, hrun⟩

/-! ### CONSUME (R186) -/

theorem exec_consume_of_full {s : State} (hset : s.addrSet = true) (hfull : s.rxFull = true) :
    exec .consume s = .next (respondWith .packet 0 s.rxFrame (clearInbound s)) :=
  (whenConfigured_of_configured hset _).trans (if_pos hfull)

theorem exec_consume_of_empty {s : State} (hset : s.addrSet = true) (hempty : s.rxFull = false) :
    exec .consume s = .next (respond .empty s) :=
  (whenConfigured_of_configured hset _).trans (if_neg (by simp [hempty]))

/-- Settles O24: the gate, then the two states of the slot; a full one is handed over and cleared, and nothing else
is written. -/
theorem consumeHandsOverThePendingFrame : Obligations.ConsumeHandsOverThePendingFrame := by
  unfold Obligations.ConsumeHandsOverThePendingFrame
  intro s
  refine ⟨decode_of_fields .consume rfl rfl rfl, fun hset => whenConfigured_refuses hset _, fun hset => ?_⟩
  cases hslot : s.rxFull with
  | true =>
    have hword : resultWord .packet 0#24 = 0x00000007#32 := by decide
    refine ⟨_, exec_consume_of_full hset hslot, ?_⟩
    simp [hword, answers, sameIdentity, sameSubmission, sameDeadlines, sameAck, sameTransceiver, sameRun]
  | false =>
    obtain ⟨⟨hid, htick, hstate, hsub, hdl, hack, hfull, hframe⟩, htransceiver, hrun⟩ := respond_frame .empty s
    exact ⟨_, exec_consume_of_empty hset hslot, rfl, hfull.trans hslot, hframe, hid, htick, hstate, hsub, hdl, hack,
      htransceiver, hrun⟩

end Sys2Proof.Machine
end

section
/-! PROOFS. Configuration and observation: SET_ADDRESS, READ_STATUS, READ_TIMERS, READ_ACK and READ_CONFIG
(44_control.md R201, R204 to R207). -/

namespace Sys2Proof.Machine

/-! ### SET_ADDRESS (R201) -/

theorem decode_setAddress (c : Config) (addr : Addr) :
    decode c (commandWord .setAddress addr 0) [] = .command (.setAddress addr) := by
  have hclear : Opcode.setAddress.format.reservedClear (commandWord .setAddress addr 0) = true :=
    beq_iff_eq.mpr (t8Field_commandWord _ _ _)
  rw [decode_of_fields .setAddress (opField_commandWord _ _ _) hclear rfl, a16Field_commandWord]
  rfl

theorem exec_setAddress_of_unset {s : State} (addr : Addr) (hset : s.addrSet = false) :
    exec (.setAddress addr) s = .next (respond .ok (assignAddress addr s)) :=
  if_neg (by simp [hset])

theorem exec_setAddress_of_set {s : State} (addr : Addr) (hset : s.addrSet = true) :
    exec (.setAddress addr) s = .next (respond .errLocked s) :=
  if_pos hset

/-- Settles O17: the first assignment writes the Device Identity alone; a later one is a result alone. -/
theorem setAddressAssignsOnceThenIsLocked : Obligations.SetAddressAssignsOnceThenIsLocked := by
  unfold Obligations.SetAddressAssignsOnceThenIsLocked
  intro s addr
  refine ⟨decode_setAddress s.cfg addr, fun hunset => ?_, fun hset => ?_⟩
  · have hanswer : answers s (respond .ok (assignAddress addr s)) 0x00000000 [] := rfl
    refine ⟨_, exec_setAddress_of_unset addr hunset, by simp, by simp, hanswer, ?_⟩
    simp [sameSubmission, sameDeadlines, sameAck, sameInbound, sameTransceiver, sameRun]
  · exact ⟨_, exec_setAddress_of_set addr hset, rfl, respond_frame .errLocked s⟩

/-! ### What a host reads off a result word (R98) -/

theorem resultWord_code (rc : ResultCode) (data : BitVec 24) : (resultWord rc data).extractLsb' 0 8 = rc.code :=
  BitVec.extractLsb'_append_eq_right

theorem resultWord_data (rc : ResultCode) (data : BitVec 24) (k n : Nat) :
    (resultWord rc data).extractLsb' (8 + k) n = data.extractLsb' k n :=
  extract_append_high data rc.code k n

theorem getLsbD_append_above {v w : Nat} (a : BitVec v) (b : BitVec w) (k : Nat) :
    (a ++ b).getLsbD (w + k) = a.getLsbD k := by
  simp [BitVec.getLsbD_append]

theorem getLsbD_append_ofBool {v : Nat} (a : BitVec v) (b : Bool) : (a ++ BitVec.ofBool b).getLsbD 0 = b := by
  simp [BitVec.getElem_append]

theorem resultWord_dataBit (rc : ResultCode) (data : BitVec 24) (k : Nat) :
    (resultWord rc data).getLsbD (8 + k) = data.getLsbD k :=
  getLsbD_append_above data rc.code k

/-- A result with data, too, writes no register, asks nothing of the Transceiver and leaves the run as it is (R90). -/
theorem respondWith_frame (rc : ResultCode) (data : BitVec 24) (phase : List Byte) (s : State) :
    sameRegisters s (respondWith rc data phase s) ∧ sameTransceiver s (respondWith rc data phase s) ∧
      sameRun s (respondWith rc data phase s) := by
  simp [sameRegisters, sameIdentity, sameSubmission, sameDeadlines, sameAck, sameInbound, sameTransceiver, sameRun]

/-! ### READ_STATUS (R204) -/

theorem exec_readStatus (s : State) : exec .readStatus s = .next (respondWith .ok (statusData s) [] s) := rfl

/-- `TX_STATE` and the three flags of R204, as bits of `RES[31:8]`. -/
theorem statusData_state_flags (s : State) :
    (statusData s).extractLsb' 0 3 = s.txState.code ∧ (statusData s).getLsbD 3 = s.ackStaged ∧
      (statusData s).getLsbD 4 = s.rxFull ∧ (statusData s).getLsbD 5 = s.addrSet :=
  ⟨BitVec.extractLsb'_append_eq_right,
    (getLsbD_append_above _ _ 0).trans (getLsbD_append_ofBool _ _),
    (getLsbD_append_above _ _ 1).trans ((getLsbD_append_above _ _ 0).trans (getLsbD_append_ofBool _ _)),
    (getLsbD_append_above _ _ 2).trans
      ((getLsbD_append_above _ _ 1).trans ((getLsbD_append_above _ _ 0).trans (getLsbD_append_ofBool _ _)))⟩

/-- `RES[31:14]` lies above the 3 bits of `TX_STATE` and the three flags. -/
theorem statusData_above_flags (s : State) (k n : Nat) :
    (statusData s).extractLsb' (3 + (1 + (1 + (1 + k)))) n =
      (s.seqCtr ++ s.tick ++ (0 : BitVec 2)).extractLsb' k n :=
  (extract_append_high _ _ _ n).trans <| (extract_append_high _ _ _ n).trans <|
    (extract_append_high _ _ _ n).trans (extract_append_high _ _ k n)

/-- The reserved bits, `TICK` and `SEQ_CTR` of R204, as bits of `RES[31:8]`. -/
theorem statusData_reserved_tick_seqCtr (s : State) :
    (statusData s).extractLsb' 6 2 = 0 ∧ (statusData s).extractLsb' 8 8 = s.tick ∧
      (statusData s).extractLsb' 16 8 = s.seqCtr :=
  ⟨(statusData_above_flags s 0 2).trans BitVec.extractLsb'_append_eq_right,
    (statusData_above_flags s 2 8).trans ((extract_append_high _ _ 0 8).trans BitVec.extractLsb'_append_eq_right),
    (statusData_above_flags s 10 8).trans ((extract_append_high _ _ 8 8).trans BitVec.extractLsb'_append_eq_left)⟩

/-- Settles O19: each bit of the word is one of `statusData`, and the result is the only effect. -/
theorem readStatusAnswersTheBitsOfR204 : Obligations.ReadStatusAnswersTheBitsOfR204 := by
  unfold Obligations.ReadStatusAnswersTheBitsOfR204
  intro s
  obtain ⟨hstate, hstaged, hfull, hset⟩ := statusData_state_flags s
  obtain ⟨hreserved, htick, hseq⟩ := statusData_reserved_tick_seqCtr s
  exact ⟨decode_of_fields .readStatus rfl rfl rfl, _, _, exec_readStatus s, rfl, resultWord_code _ _,
    (resultWord_data _ _ 0 3).trans hstate, (resultWord_dataBit _ _ 3).trans hstaged,
    (resultWord_dataBit _ _ 4).trans hfull, (resultWord_dataBit _ _ 5).trans hset,
    (resultWord_data _ _ 6 2).trans hreserved, (resultWord_data _ _ 8 8).trans htick,
    (resultWord_data _ _ 16 8).trans hseq, respondWith_frame _ _ _ s⟩

/-! ### READ_TIMERS, READ_ACK and READ_CONFIG (R205 to R207) -/

theorem exec_readTimers (s : State) : exec .readTimers s = .next (respondWith .ok (timersData s) [] s) := rfl

theorem exec_readAck (s : State) : exec .readAck s = .next (respondWith .ok (ackData s) [] s) := rfl

theorem exec_readConfig (s : State) : exec .readConfig s = .next (respondWith .ok (configData s) [] s) := rfl

theorem timersData_fields (s : State) :
    (timersData s).extractLsb' 0 8 = s.txSeq ∧ (timersData s).extractLsb' 8 8 = s.ackDeadline ∧
      (timersData s).extractLsb' 16 8 = s.retryDeadline :=
  ⟨BitVec.extractLsb'_append_eq_right, (extract_append_high _ _ 0 8).trans BitVec.extractLsb'_append_eq_right,
    (extract_append_high _ _ 8 8).trans BitVec.extractLsb'_append_eq_left⟩

theorem ackData_fields (s : State) :
    (ackData s).extractLsb' 0 16 = s.ackDst ∧ (ackData s).extractLsb' 16 8 = s.ackSeq :=
  ⟨BitVec.extractLsb'_append_eq_right, BitVec.extractLsb'_append_eq_left⟩

theorem configData_fields (s : State) :
    (configData s).extractLsb' 0 16 = s.myAddr ∧ (configData s).extractLsb' 16 8 = 0 :=
  ⟨BitVec.extractLsb'_append_eq_right, BitVec.extractLsb'_append_eq_left⟩

/-- Settles O20: each field of the word is one of the command's data, and the result is the only effect. -/
theorem readTimersAckAndConfigAnswerTheirRegisters : Obligations.ReadTimersAckAndConfigAnswerTheirRegisters := by
  unfold Obligations.ReadTimersAckAndConfigAnswerTheirRegisters
  intro s
  obtain ⟨htxSeq, hackDeadline, hretryDeadline⟩ := timersData_fields s
  obtain ⟨hackDst, hackSeq⟩ := ackData_fields s
  obtain ⟨hmyAddr, hreserved⟩ := configData_fields s
  refine ⟨decode_of_fields .readTimers rfl rfl rfl, decode_of_fields .readAck rfl rfl rfl,
    decode_of_fields .readConfig rfl rfl rfl, ?timers, ?ack, ?config⟩
  case timers =>
    exact ⟨_, _, exec_readTimers s, rfl, resultWord_code _ _, (resultWord_data _ _ 0 8).trans htxSeq,
      (resultWord_data _ _ 8 8).trans hackDeadline, (resultWord_data _ _ 16 8).trans hretryDeadline,
      respondWith_frame _ _ _ s⟩
  case ack =>
    exact ⟨_, _, exec_readAck s, rfl, resultWord_code _ _, (resultWord_data _ _ 0 16).trans hackDst,
      (resultWord_data _ _ 16 8).trans hackSeq, respondWith_frame _ _ _ s⟩
  case config =>
    exact ⟨_, _, exec_readConfig s, rfl, resultWord_code _ _, (resultWord_data _ _ 0 16).trans hmyAddr,
      (resultWord_data _ _ 16 8).trans hreserved, respondWith_frame _ _ _ s⟩

end Sys2Proof.Machine
end

section
/-! PROOFS. The configuration gate, command by command (60_exceptions.md R223). -/

namespace Sys2Proof.Machine

/-! ### The two halves of the command set -/

/-- The five protocol commands are the gated ones (R223). -/
theorem exec_protocol_of_unconfigured {i : Instr} {s : State}
    (hop : i.opcode ∈ [.tickRx, .tickTx, .submit, .collect, .consume]) (hset : s.addrSet = false) :
    exec i s = .next (respond .errUnconfigured s) := by
  cases i with
  | tickRx | tickTx | submit _ _ _ | collect | consume => exact whenConfigured_of_unconfigured hset _
  | setAddress _ | powerUp | powerDown | readStatus | readTimers | readAck | readConfig =>
    simp [Instr.opcode] at hop

/-- A configuration, power or observation command answers once, with no data phase: OK, or ERR_LOCKED for a second
SET_ADDRESS. -/
theorem exec_control_cases {i : Instr}
    (hop : i.opcode ∈ [.setAddress, .powerUp, .powerDown, .readStatus, .readTimers, .readAck, .readConfig])
    (s : State) :
    ∃ rc data u, (rc = .ok ∨ rc = .errLocked) ∧ u.responses = s.responses ∧
      exec i s = .next (respondWith rc data [] u) := by
  cases i with
  | setAddress addr =>
    cases hset : s.addrSet with
    | false => exact ⟨.ok, 0, assignAddress addr s, .inl rfl, rfl, exec_setAddress_of_unset addr hset⟩
    | true => exact ⟨.errLocked, 0, s, .inr rfl, rfl, exec_setAddress_of_set addr hset⟩
  | powerUp => exact ⟨.ok, 0, xPowerUp s, .inl rfl, rfl, rfl⟩
  | powerDown => exact ⟨.ok, 0, xPowerDown s, .inl rfl, rfl, rfl⟩
  | readStatus => exact ⟨.ok, _, s, .inl rfl, rfl, exec_readStatus s⟩
  | readTimers => exact ⟨.ok, _, s, .inl rfl, rfl, exec_readTimers s⟩
  | readAck => exact ⟨.ok, _, s, .inl rfl, rfl, exec_readAck s⟩
  | readConfig => exact ⟨.ok, _, s, .inl rfl, rfl, exec_readConfig s⟩
  | tickRx | tickTx | submit _ _ _ | collect | consume => simp [Instr.opcode] at hop

/-! ### R223 -/

theorem step_of_command {s : State} {word : Word} {data : List Byte} {rest : List Input} {i : Instr}
    (ho : offered s word data rest) (hd : decode s.cfg word data = .command i) :
    step s = exec i (setInputs rest s) := by
  obtain ⟨hinputs, hheld⟩ := ho
  simp [step, fetch, hinputs, hheld, hd]

/-- Settles O15: a protocol command is gated, so before SET_ADDRESS its step takes the transfer and answers
`ERR_UNCONFIGURED`; a control command answers one of two other codes. -/
theorem unconfiguredProtocolCommandsAreRefusedWithNoEffect :
    Obligations.UnconfiguredProtocolCommandsAreRefusedWithNoEffect := by
  unfold Obligations.UnconfiguredProtocolCommandsAreRefusedWithNoEffect
  refine ⟨fun s word data rest i ho hd hset hop => ?protocol, fun s t i hexec hop => ?control⟩
  case protocol =>
    have hstep : step s = .next (respond .errUnconfigured (setInputs rest s)) :=
      (step_of_command ho hd).trans (exec_protocol_of_unconfigured hop hset)
    have hanswer : answers s (respond .errUnconfigured (setInputs rest s)) 0x000000E1 [] := rfl
    have ⟨hregisters, htransceiver⟩ := respond_setInputs_frame .errUnconfigured rest s
    exact ⟨_, hstep, hanswer, hregisters, htransceiver, by simp, by simp [ho.2], by simp⟩
  case control =>
    obtain ⟨rc, data, u, hrc, hresponses, h⟩ := exec_control_cases hop s
    obtain rfl : respondWith rc data [] u = t := Host.Outcome.next.inj (h.symm.trans hexec)
    have hanswer : answers s (respondWith rc data [] u) (resultWord rc data) [] := by simp [answers, hresponses]
    have hcode : rc.code ≠ 0xE1 := by obtain rfl | rfl := hrc <;> decide
    exact ⟨resultWord rc data, hanswer, (resultWord_code rc data).trans_ne hcode⟩

end Sys2Proof.Machine
end

section
/-! PROOFS. Reset, and the wait after it (70_reset_and_hazards.md R250). -/

namespace Sys2Proof.Machine

/-- Reset is met at once, whatever command is in progress (R71, R250). -/
theorem step_of_reset {s : State} {rest : List Input} (h : s.inputs = .reset :: rest) :
    step s = .next (applyReset (setInputs rest s)) := by
  simp [step, fetch, h]

/-- With nothing to come and no command in progress the MAC waits (R78). -/
theorem step_of_idle {s : State} (hinputs : s.inputs = []) (hheld : s.held = none) : step s = .next s := by
  simp [step, fetch, hinputs, hheld]

/-- Settles O10: the step leaves `applyReset`, whose fields are those of R50 beside the Transceiver's old ones; it
holds no command, so with no input left it waits. -/
theorem resetSetsEveryRegisterAndSparesTheTransceiver :
    Obligations.ResetSetsEveryRegisterAndSparesTheTransceiver := by
  unfold Obligations.ResetSetsEveryRegisterAndSparesTheTransceiver
  intro s rest h
  have hheld : (applyReset (setInputs rest s)).held = none := by simp
  have hinputs : (applyReset (setInputs rest s)).inputs = rest := by simp
  have hwaits (hrest : rest = []) : step (applyReset (setInputs rest s)) = .next (applyReset (setInputs rest s)) :=
    step_of_idle (hinputs.trans hrest) hheld
  have htransceiver : sameTransceiver s (applyReset (setInputs rest s)) := by simp [sameTransceiver]
  refine ⟨_, step_of_reset h, ?_⟩
  simpa [Config.frameLen] using And.intro htransceiver hwaits

end Sys2Proof.Machine
end

section
/-! PROOFS. Encoding and decoding are inverse, and the rows' masks (30_encoding.md R91 to R97). -/

namespace Sys2Proof

/-! ### A command and its transfer -/

/-- The model's per-command facts about opcode field and data phase, for every command. -/
theorem opcodeField_statement (i : Instr) : Laws.OpcodeField.Statement i := by
  cases i with
  | setAddress addr => exact Laws.OpcodeField.setAddress addr
  | powerUp => exact Laws.OpcodeField.powerUp
  | powerDown => exact Laws.OpcodeField.powerDown
  | tickRx => exact Laws.OpcodeField.tickRx
  | tickTx => exact Laws.OpcodeField.tickTx
  | submit receiver type payload => exact Laws.OpcodeField.submit receiver type payload
  | collect => exact Laws.OpcodeField.collect
  | consume => exact Laws.OpcodeField.consume
  | readStatus => exact Laws.OpcodeField.readStatus
  | readTimers => exact Laws.OpcodeField.readTimers
  | readAck => exact Laws.OpcodeField.readAck
  | readConfig => exact Laws.OpcodeField.readConfig

theorem opField_encode (i : Instr) : opField (encode i).1 = i.opcode.code := (opcodeField_statement i).1

theorem wellFormed_iff (c : Config) (i : Instr) :
    i.wellFormed c = true ↔ (encode i).2.length = i.opcode.dataLen c := by
  rw [(opcodeField_statement i).2 c, beq_iff_eq]

/-- The reserved fields of an encoding are zero (R92). -/
theorem reservedClear_encode (i : Instr) : i.opcode.format.reservedClear (encode i).1 = true := by
  have hn (op : Opcode) : Format.n.reservedClear (commandWord op 0 0) = true :=
    (reservedClear_n _).mpr ⟨a16Field_commandWord _ _ _, t8Field_commandWord _ _ _⟩
  cases i with
  | setAddress addr => exact beq_iff_eq.mpr (t8Field_commandWord _ addr 0)
  | submit receiver type payload => rfl
  | powerUp | powerDown | tickRx | tickTx | collect | consume | readStatus | readTimers | readAck | readConfig =>
    exact hn _

/-- Operand assembly reads back the operands that the encoding laid out (R93). -/
theorem assemble_encode (i : Instr) :
    i.opcode.assemble (a16Field (encode i).1) (t8Field (encode i).1) (encode i).2 = i := by
  cases i with
  | setAddress addr => exact congrArg Instr.setAddress (a16Field_commandWord _ addr 0)
  | submit receiver type payload =>
    exact congrArg₂ (Instr.submit · · payload) (a16Field_commandWord _ receiver type) (t8Field_commandWord _ _ _)
  | powerUp | powerDown | tickRx | tickTx | collect | consume | readStatus | readTimers | readAck | readConfig =>
    rfl

/-- Settles O1: an encoding has the opcode, the reserved zeros and the length that the decoder asks for, and assembly
reads its operands back. -/
theorem decodeOfEncodeGivesTheCommandBack : Obligations.DecodeOfEncodeGivesTheCommandBack := by
  unfold Obligations.DecodeOfEncodeGivesTheCommandBack
  intro c i hwf
  have hdecode := decode_of_fields i.opcode (opField_encode i) (reservedClear_encode i) ((wellFormed_iff c i).mp hwf)
  rwa [assemble_encode] at hdecode

/-- The encoding of an assembled command is the transfer it was assembled from, when the reserved fields are zero and
the data phase has its length: the operands that assembly drops are zero or empty (R92, R97). -/
theorem encode_assemble (c : Config) (op : Opcode) (w : Word) (data : List Byte)
    (hclear : op.format.reservedClear w = true) (hlen : data.length = op.dataLen c) :
    encode (op.assemble (a16Field w) (t8Field w) data) = (commandWord op (a16Field w) (t8Field w), data) := by
  cases op with
  | setAddress =>
    obtain rfl := List.eq_nil_of_length_eq_zero hlen
    rw [show t8Field w = 0 from beq_iff_eq.mp hclear]
    rfl
  | submit => rfl
  | powerUp | powerDown | tickRx | tickTx | collect | consume | readStatus | readTimers | readAck | readConfig =>
    obtain ⟨ha, ht⟩ := (reservedClear_n w).mp hclear
    obtain rfl := List.eq_nil_of_length_eq_zero hlen
    rw [ha, ht]
    rfl

theorem encode_of_decode {c : Config} {w : Word} {data : List Byte} {i : Instr} (h : decode c w data = .command i) :
    encode i = (w, data) := by
  obtain ⟨op, hop, hclear, hlen, rfl⟩ := decode_command h
  rw [encode_assemble c op w data hclear hlen, commandWord_of_fields op w hop]

theorem wellFormed_of_decode {c : Config} {w : Word} {data : List Byte} {i : Instr}
    (h : decode c w data = .command i) : i.wellFormed c = true := by
  have henc := encode_of_decode h
  obtain ⟨op, -, -, hlen, rfl⟩ := decode_command h
  rwa [wellFormed_iff, henc, opcode_assemble]

/-- Settles O2: what the decoder checks is what makes the assembled command's encoding the transfer itself. -/
theorem decoderAcceptsOnlyEncodings : Obligations.DecoderAcceptsOnlyEncodings := by
  unfold Obligations.DecoderAcceptsOnlyEncodings
  intro c word data i h
  exact ⟨encode_of_decode h, wellFormed_of_decode h⟩

/-! ### The masks (R94) -/

/-- A mask made of one mask per field masks field by field. -/
theorem and_fields (w : Word) (mt : Byte) (ma : Addr) (mo : Byte) :
    w &&& (mt ++ ma ++ mo : BitVec (8 + 16 + 8)) =
      ((t8Field w &&& mt) ++ (a16Field w &&& ma) ++ (opField w &&& mo) : BitVec (8 + 16 + 8)) := by
  rw [← BitVec.and_append, ← BitVec.and_append]
  exact congrArg (· &&& _) (append_of_fields w).symm

/-- Concatenations are equal when both parts are. -/
theorem append_eq_append_iff {v w : Nat} {a a' : BitVec v} {b b' : BitVec w} :
    a ++ b = a' ++ b' ↔ a = a' ∧ b = b' := by
  constructor
  · intro h
    have hb : b = b' := by simpa only [BitVec.extractLsb'_append_eq_right] using congrArg (BitVec.extractLsb' 0 w) h
    subst hb
    exact ⟨(BitVec.append_left_inj b).mp h, rfl⟩
  · rintro ⟨rfl, rfl⟩
    rfl

theorem matchWord_eq (op : Opcode) : op.matchWord = op.code.zeroExtend 32 := by cases op <;> rfl

/-- A word carries an opcode with the reserved field of its format zero exactly when it agrees with the row's match
value under the row's mask (R92, R94). -/
theorem and_mask_eq_iff (op : Opcode) (w : Word) :
    w &&& op.mask = op.matchWord ↔ opField w = op.code ∧ op.format.reservedClear w = true := by
  have hfields (mt : Byte) (ma : Addr) (mo : Byte) :
      w &&& (mt ++ ma ++ mo : BitVec (8 + 16 + 8)) = op.matchWord ↔
        t8Field w &&& mt = 0 ∧ a16Field w &&& ma = 0 ∧ opField w &&& mo = op.code := by
    rw [and_fields, ← and_assoc, ← append_eq_append_iff, ← append_eq_append_iff]
    rfl
  have hall (n : Nat) (x : BitVec n) : x &&& BitVec.allOnes n = x := BitVec.and_allOnes
  unfold Opcode.mask
  cases op.format with
  | n =>
    have h := hfields (BitVec.allOnes 8) (BitVec.allOnes 16) (BitVec.allOnes 8)
    rw [hall, hall, hall] at h
    rw [reservedClear_n]
    exact h.trans ⟨fun ⟨ht, ha, ho⟩ => ⟨ho, ha, ht⟩, fun ⟨ho, ha, ht⟩ => ⟨ht, ha, ho⟩⟩
  | a =>
    have h := hfields (BitVec.allOnes 8) 0 (BitVec.allOnes 8)
    rw [hall, hall] at h
    exact h.trans ⟨fun ⟨ht, _, ho⟩ => ⟨ho, beq_iff_eq.mpr ht⟩, fun ⟨ho, ht⟩ => ⟨beq_iff_eq.mp ht, BitVec.and_zero, ho⟩⟩
  | s =>
    have h := hfields 0 0 (BitVec.allOnes 8)
    rw [hall] at h
    exact h.trans ⟨fun ⟨_, _, ho⟩ => ⟨ho, rfl⟩, fun ⟨ho, _⟩ => ⟨BitVec.and_zero, BitVec.and_zero, ho⟩⟩

/-- The decoder answers a command of an opcode exactly for the words of its row, with a data phase of its length. -/
theorem exists_decode_opcode_iff (c : Config) (w : Word) (data : List Byte) (op : Opcode) :
    (∃ i, decode c w data = .command i ∧ i.opcode = op) ↔
      data.length = op.dataLen c ∧ w &&& op.mask = op.matchWord := by
  rw [and_mask_eq_iff]
  constructor
  · rintro ⟨i, hdecode, hop⟩
    obtain ⟨op', hfield, hclear, hlen, rfl⟩ := decode_command hdecode
    obtain rfl : op' = op := (opcode_assemble op' _ _ _).symm.trans hop
    exact ⟨hlen, hfield, hclear⟩
  · rintro ⟨hlen, hfield, hclear⟩
    exact ⟨_, decode_of_fields op hfield hclear hlen, opcode_assemble op _ _ _⟩

/-- Settles O3: a row's two checks, opcode and reserved field, are one comparison under its mask. -/
theorem decoderAcceptsExactlyTheRowsUnderTheirMasks : Obligations.DecoderAcceptsExactlyTheRowsUnderTheirMasks := by
  unfold Obligations.DecoderAcceptsExactlyTheRowsUnderTheirMasks
  intro c word data op
  rw [exists_decode_opcode_iff, matchWord_eq]
  unfold Opcode.mask
  cases op.format <;> rfl

end Sys2Proof
end

section
/-! PROOFS. What each command can do, and what each step can do, said once (30_encoding.md R95, 20_memory.md R71,
R72); the statements that hold of every command by those cases alone. -/

namespace Sys2Proof.Machine

/-! ### The burst of TICK_TX -/

/-- The state after the carrier sense and the pushes of a TICK_TX that attempts a burst (R157, R161). -/
def pushBurst (s : State) : State := sendData (eligible s) (sendStagedAck (askBusy s))

/-- What that TICK_TX waits with (R72, R152). -/
def burstHold (timeout : Bool) (s : State) : Hold := ⟨eligible s, ⟨timeout, true, false, s.ackStaged, eligible s⟩⟩

@[simp] theorem pushBurst_fields (s : State) :
    (pushBurst s).cfg = s.cfg ∧ (pushBurst s).myAddr = s.myAddr ∧ (pushBurst s).addrSet = s.addrSet ∧
    (pushBurst s).tick = s.tick ∧ (pushBurst s).seqCtr = s.seqCtr ∧ (pushBurst s).txState = s.txState ∧
    (pushBurst s).txFrame = s.txFrame ∧ (pushBurst s).txSeq = s.txSeq ∧
    (pushBurst s).ackDeadline = s.ackDeadline ∧ (pushBurst s).retryDeadline = s.retryDeadline ∧
    (pushBurst s).ackStaged = false ∧ (pushBurst s).ackDst = s.ackDst ∧ (pushBurst s).ackSeq = s.ackSeq ∧
    (pushBurst s).rxFull = s.rxFull ∧ (pushBurst s).rxFrame = s.rxFrame ∧ (pushBurst s).held = s.held ∧
    (pushBurst s).rxq = s.rxq ∧ (pushBurst s).carrier = s.carrier.tail ∧ (pushBurst s).txAnswers = s.txAnswers ∧
    (pushBurst s).xlog = s.xlog ++ [.carrierSense (busyAnswer s)] ++
      (if s.ackStaged then [.send (ackFrame s)] else []) ++ (if eligible s then [.send s.txFrame] else []) ∧
    (pushBurst s).inputs = s.inputs ∧ (pushBurst s).responses = s.responses := by
  simp [pushBurst]

@[simp] theorem burstHold_fields (timeout : Bool) (s : State) :
    (burstHold timeout s).elig = eligible s ∧
      (burstHold timeout s).flags = ⟨timeout, true, false, s.ackStaged, eligible s⟩ := ⟨rfl, rfl⟩

/-- The timeout check makes nothing eligible and ends nothing that is: it ends only a wait for an ack. -/
@[simp] theorem eligible_checkTimeout (s : State) : eligible (checkTimeout s) = eligible s := by
  cases hdue : ackTimedOut s with
  | true =>
    have hwait := ((ackTimedOut_iff s).mp hdue).1
    have hnot : eligible s = false := Bool.eq_false_iff.mpr fun h => (txState_of_eligible h).2 hwait
    rw [checkTimeout_of_due hdue, eligible_timeOutTransaction, hnot]
  | false => rw [checkTimeout_of_not_due hdue]

@[simp] theorem busyAnswer_checkTimeout (s : State) : busyAnswer (checkTimeout s) = busyAnswer s := by
  simp [busyAnswer]

@[simp] theorem txActiveAnswer_askBusy_checkTimeout (s : State) :
    txActiveAnswer (askBusy (checkTimeout s)) = txActiveAnswer (askBusy s) := by
  cases hc : s.carrier <;> simp [txActiveAnswer, askBusy, hc]

/-! ### What a command can do -/

/-- Everything a command can do to a state, case by case, with the condition of each case. -/
inductive CommandEffect (s : State) : Instr → State → Prop where
  /-- A protocol command before SET_ADDRESS (R223). -/
  | unconfigured (i : Instr) (hop : i.opcode ∈ [.tickRx, .tickTx, .submit, .collect, .consume])
      (hset : s.addrSet = false) : CommandEffect s i (respond .errUnconfigured s)
  | addressAssigned (addr : Addr) (hset : s.addrSet = false) :
      CommandEffect s (.setAddress addr) (respond .ok (assignAddress addr s))
  | addressLocked (addr : Addr) (hset : s.addrSet = true) :
      CommandEffect s (.setAddress addr) (respond .errLocked s)
  | poweredUp : CommandEffect s .powerUp (respond .ok (xPowerUp s))
  | poweredDown : CommandEffect s .powerDown (respond .ok (xPowerDown s))
  /-- One of the four observation commands (R204 to R207). -/
  | observed (i : Instr) (data : BitVec 24) (hop : i.opcode ∈ [.readStatus, .readTimers, .readAck, .readConfig]) :
      CommandEffect s i (respondWith .ok data [] s)
  | received (hset : s.addrSet = true) :
      CommandEffect s .tickRx
        (respondWith .ok
          (tickRxData (drain s.cfg.rxBurstMax (clockStep s)).1 (drain s.cfg.rxBurstMax (clockStep s)).2.tick) []
          (drain s.cfg.rxBurstMax (clockStep s)).2)
  /-- No data to attempt and no ack to send alone: the timeout check only (R155). -/
  | nothingSent (hset : s.addrSet = true) (helig : eligible s = false)
      (hack : s.ackStaged = false ∨ s.cfg.standaloneAck = false) :
      CommandEffect s .tickTx
        (respondWith .ok (TxFlags.data ⟨ackTimedOut s, false, false, false, false⟩) [] (checkTimeout s))
  /-- The channel is busy at an eligible attempt (R156). -/
  | deferred (hset : s.addrSet = true) (helig : eligible s = true) (hbusy : busyAnswer s = true) :
      CommandEffect s .tickTx
        (respondWith .ok (TxFlags.data ⟨false, true, true, false, false⟩) [] (deferTransaction (askBusy s)))
  /-- The channel is busy for a stand-alone ack (R161). -/
  | ackKept (hset : s.addrSet = true) (helig : eligible s = false) (hstaged : s.ackStaged = true)
      (halone : s.cfg.standaloneAck = true) (hbusy : busyAnswer s = true) :
      CommandEffect s .tickTx
        (respondWith .ok (TxFlags.data ⟨ackTimedOut s, true, true, false, false⟩) [] (askBusy (checkTimeout s)))
  /-- A burst is pushed, and the Transceiver is still active (R162). -/
  | burstHeld (hset : s.addrSet = true) (hsend : eligible s = true ∨ (s.ackStaged = true ∧ s.cfg.standaloneAck = true))
      (hfree : busyAnswer s = false) (hactive : txActiveAnswer (askBusy s) = true) :
      CommandEffect s .tickTx
        (setHeld (some (burstHold (ackTimedOut s) (checkTimeout s))) (askTxActive (pushBurst (checkTimeout s))))
  /-- A burst is pushed, and the Transceiver is done with it (R157, R159). -/
  | burstDone (hset : s.addrSet = true) (hsend : eligible s = true ∨ (s.ackStaged = true ∧ s.cfg.standaloneAck = true))
      (hfree : busyAnswer s = false) (hdone : txActiveAnswer (askBusy s) = false) :
      CommandEffect s .tickTx
        (finishBurst (burstHold (ackTimedOut s) (checkTimeout s)) (askTxActive (pushBurst (checkTimeout s))))
  | submitOccupied (receiver : Addr) (type : Byte) (payload : List Byte) (hset : s.addrSet = true)
      (hstate : s.txState ≠ .idle) : CommandEffect s (.submit receiver type payload) (respond .busy s)
  | submitTransmitting (receiver : Addr) (type : Byte) (payload : List Byte) (hset : s.addrSet = true)
      (hstate : s.txState = .idle) (hactive : txActiveAnswer s = true) :
      CommandEffect s (.submit receiver type payload) (respond .busy (askTxActive s))
  | submitted (receiver : Addr) (type : Byte) (payload : List Byte) (hset : s.addrSet = true)
      (hstate : s.txState = .idle) (hdone : txActiveAnswer s = false) :
      CommandEffect s (.submit receiver type payload)
        (respondWith .ok (submitData (s.seqCtr + 1)) [] (stampTransaction receiver type payload (askTxActive s)))
  | collected (hset : s.addrSet = true) (hterminal : s.txState = .succeeded ∨ s.txState = .timedOut) :
      CommandEffect s .collect (respond (collectCode s.txState) (freeTransaction s))
  | notCollected (hset : s.addrSet = true) (hstate : ¬ (s.txState = .succeeded ∨ s.txState = .timedOut)) :
      CommandEffect s .collect (respond (collectCode s.txState) s)
  | consumed (hset : s.addrSet = true) (hfull : s.rxFull = true) :
      CommandEffect s .consume (respondWith .packet 0 s.rxFrame (clearInbound s))
  | nothingPending (hset : s.addrSet = true) (hempty : s.rxFull = false) :
      CommandEffect s .consume (respond .empty s)

theorem exec_submit_of_free {s : State} (receiver : Addr) (type : Byte) (payload : List Byte)
    (hset : s.addrSet = true) (hstate : s.txState = .idle) (hdone : txActiveAnswer s = false) :
    exec (.submit receiver type payload) s =
      .next (respondWith .ok (submitData (s.seqCtr + 1)) []
        (stampTransaction receiver type payload (askTxActive s))) :=
  (whenConfigured_of_configured hset _).trans
    ((if_neg (not_not_intro hstate)).trans (if_neg (by simp [hdone])))

theorem ackOnly_checkTimeout (s : State) :
    ackOnly (checkTimeout s) = true ↔ eligible s = false ∧ s.ackStaged = true ∧ s.cfg.standaloneAck = true := by
  simp [ackOnly, and_assoc]

/-- The attempt of a TICK_TX that finds the channel busy (R156, R161). -/
theorem attempt_effect_of_busy {s : State} (hset : s.addrSet = true)
    (hsend : eligible s = true ∨ (s.ackStaged = true ∧ s.cfg.standaloneAck = true)) (hbusy : busyAnswer s = true) :
    CommandEffect s .tickTx (attempt (ackTimedOut s) (checkTimeout s)) := by
  have hattempt : attempt (ackTimedOut s) (checkTimeout s) =
      respondWith .ok (TxFlags.data ⟨ackTimedOut s, true, true, false, false⟩) []
        (if eligible s then deferTransaction (askBusy (checkTimeout s)) else askBusy (checkTimeout s)) := by
    simp [attempt, hbusy]
  rw [hattempt]
  cases helig : eligible s with
  | true =>
    have hdue := ackTimedOut_of_eligible helig
    simpa [hdue, checkTimeout_of_not_due hdue] using CommandEffect.deferred hset helig hbusy
  | false =>
    obtain ⟨hstaged, halone⟩ := hsend.resolve_left (by simp [helig])
    simpa using CommandEffect.ackKept hset helig hstaged halone hbusy

/-- The attempt of a TICK_TX that finds the channel free (R157, R161, R162). -/
theorem attempt_effect_of_free {s : State} (hset : s.addrSet = true)
    (hsend : eligible s = true ∨ (s.ackStaged = true ∧ s.cfg.standaloneAck = true)) (hfree : busyAnswer s = false) :
    CommandEffect s .tickTx (attempt (ackTimedOut s) (checkTimeout s)) := by
  have hattempt : attempt (ackTimedOut s) (checkTimeout s) =
      awaitBurst (burstHold (ackTimedOut s) (checkTimeout s)) (pushBurst (checkTimeout s)) := by
    simp [attempt, hfree, burstHold, pushBurst]
  have hlook : txActiveAnswer (pushBurst (checkTimeout s)) = txActiveAnswer (askBusy s) := by simp [pushBurst]
  rw [hattempt]
  obtain ⟨hactive, e⟩ | ⟨hdone, e⟩ :=
    awaitBurst_cases (burstHold (ackTimedOut s) (checkTimeout s)) (pushBurst (checkTimeout s))
  · exact e ▸ .burstHeld hset hsend hfree (hlook ▸ hactive)
  · exact e ▸ .burstDone hset hsend hfree (hlook ▸ hdone)

theorem execTickTx_effect {s : State} (hset : s.addrSet = true) :
    ∃ t, exec .tickTx s = .next t ∧ CommandEffect s .tickTx t := by
  rw [exec_tickTx]
  obtain ⟨helig, hack, e⟩ | ⟨hsend, e⟩ := execTickTx_cases s hset
  · rw [eligible_checkTimeout] at helig
    refine ⟨_, e, .nothingSent hset helig ?_⟩
    simpa [ackOnly, helig, imp_iff_not_or] using hack
  · refine ⟨_, e, ?_⟩
    rw [eligible_checkTimeout, ackOnly_checkTimeout] at hsend
    have hsend' := hsend.imp_right And.right
    cases hbusy : busyAnswer s with
    | true => exact attempt_effect_of_busy hset hsend' hbusy
    | false => exact attempt_effect_of_free hset hsend' hbusy

theorem exec_submit_effect {s : State} (receiver : Addr) (type : Byte) (payload : List Byte)
    (hset : s.addrSet = true) :
    ∃ t, exec (.submit receiver type payload) s = .next t ∧ CommandEffect s (.submit receiver type payload) t := by
  by_cases hstate : s.txState = .idle
  · cases hanswer : txActiveAnswer s with
    | true =>
      exact ⟨_, exec_submit_of_transmitting _ _ _ hset hstate hanswer, .submitTransmitting _ _ _ hset hstate hanswer⟩
    | false => exact ⟨_, exec_submit_of_free _ _ _ hset hstate hanswer, .submitted _ _ _ hset hstate hanswer⟩
  · exact ⟨_, exec_submit_of_transaction _ _ _ hset hstate, .submitOccupied _ _ _ hset hstate⟩

/-- A protocol command after SET_ADDRESS. -/
theorem exec_protocol_effect {i : Instr} {s : State}
    (hop : i.opcode ∈ [.tickRx, .tickTx, .submit, .collect, .consume]) (hset : s.addrSet = true) :
    ∃ t, exec i s = .next t ∧ CommandEffect s i t := by
  cases i with
  | tickRx => exact ⟨_, execTickRx_configured hset, .received hset⟩
  | tickTx => exact execTickTx_effect hset
  | submit receiver type payload => exact exec_submit_effect receiver type payload hset
  | collect =>
    obtain ⟨hterminal, e⟩ | ⟨hnot, e⟩ := exec_collect_cases hset
    · exact ⟨_, e, .collected hset hterminal⟩
    · exact ⟨_, e, .notCollected hset hnot⟩
  | consume =>
    cases hslot : s.rxFull with
    | true => exact ⟨_, exec_consume_of_full hset hslot, .consumed hset hslot⟩
    | false => exact ⟨_, exec_consume_of_empty hset hslot, .nothingPending hset hslot⟩
  | setAddress _ | powerUp | powerDown | readStatus | readTimers | readAck | readConfig =>
    simp [Instr.opcode] at hop

/-- Every command answers a next state, by one of the cases of `CommandEffect`. -/
theorem exec_effect (i : Instr) (s : State) : ∃ t, exec i s = .next t ∧ CommandEffect s i t := by
  cases i with
  | setAddress addr =>
    cases hset : s.addrSet with
    | false => exact ⟨_, exec_setAddress_of_unset addr hset, .addressAssigned addr hset⟩
    | true => exact ⟨_, exec_setAddress_of_set addr hset, .addressLocked addr hset⟩
  | powerUp => exact ⟨_, rfl, .poweredUp⟩
  | powerDown => exact ⟨_, rfl, .poweredDown⟩
  | readStatus => exact ⟨_, exec_readStatus s, .observed _ _ (by decide)⟩
  | readTimers => exact ⟨_, exec_readTimers s, .observed _ _ (by decide)⟩
  | readAck => exact ⟨_, exec_readAck s, .observed _ _ (by decide)⟩
  | readConfig => exact ⟨_, exec_readConfig s, .observed _ _ (by decide)⟩
  | tickRx | tickTx | submit _ _ _ | collect | consume =>
    cases hset : s.addrSet with
    | false =>
      exact ⟨_, exec_protocol_of_unconfigured (by simp [Instr.opcode]) hset,
        .unconfigured _ (by simp [Instr.opcode]) hset⟩
    | true => exact exec_protocol_effect (by simp [Instr.opcode]) hset

theorem effect_of_exec {i : Instr} {s t : State} (h : exec i s = .next t) : CommandEffect s i t := by
  obtain ⟨u, hexec, heffect⟩ := exec_effect i s
  obtain rfl : u = t := Host.Outcome.next.inj (hexec.symm.trans h)
  exact heffect

/-- Settles O13: every case of `exec_effect` answers. -/
theorem everyCommandAnswersANextState : Obligations.EveryCommandAnswersANextState := by
  unfold Obligations.EveryCommandAnswersANextState
  intro i s
  obtain ⟨t, hexec, -⟩ := exec_effect i s
  exact ⟨t, hexec⟩

/-! ### What holds of every command by its cases -/

/-- Settles O16: each case updates only fields of its own command's writers. -/
theorem registersAreWrittenOnlyByTheirWriters : Obligations.RegistersAreWrittenOnlyByTheirWriters := by
  unfold Obligations.RegistersAreWrittenOnlyByTheirWriters
  intro i s t h
  cases effect_of_exec h with
  | unconfigured _ _ _ | observed _ _ _ => simp [sameIdentity, sameSubmission, sameDeadlines, sameAck, sameInbound]
  | _ => simp [Instr.opcode, sameIdentity, sameSubmission, sameDeadlines, sameAck, sameInbound, drain_frame]

/-- One answer with no data phase, whose code is in a command's list. -/
theorem answers_respondWith {s u : State} (i : Instr) (rc : ResultCode) (data : BitVec 24) {codes : List Byte}
    (hu : u.responses = s.responses) (hcode : rc.code ∈ codes) :
    ∃ word phase, answers s (respondWith rc data [] u) word phase ∧
      (phase ≠ [] → i = .consume ∧ word = 0x00000007 ∧ phase = s.rxFrame) ∧ word.extractLsb' 0 8 ∈ codes :=
  ⟨resultWord rc data, [], by simp [answers, hu], fun h => absurd rfl h, (resultWord_code rc data).symm ▸ hcode⟩

/-- COLLECT's five codes (R100, R184). -/
theorem collectCode_mem (x : TxState) : (collectCode x).code ∈ [0x02, 0x03, 0x04, 0x05, 0xE1] := by
  cases x <;> decide

/-- Settles O14: the code is read off each case's answer; `burstHeld` is the case without one, and `consumed` the
case with a data phase. -/
theorem everyCommandAnswersOneResultOfItsOwnCodes : Obligations.EveryCommandAnswersOneResultOfItsOwnCodes := by
  unfold Obligations.EveryCommandAnswersOneResultOfItsOwnCodes
  intro i s t h
  cases effect_of_exec h with
  | burstHeld hset hsend hfree hactive => exact .inl ⟨rfl, by simp, by simp⟩
  | burstDone hset hsend hfree hdone =>
    exact .inr ⟨resultWord .ok (burstHold (ackTimedOut s) (checkTimeout s)).flags.data, [], by simp [answers], by simp,
      by simp [resultWord_code, ResultCode.code]⟩
  | consumed hset hfull =>
    exact .inr ⟨resultWord .packet 0, s.rxFrame, by simp [answers], fun _ => ⟨rfl, by decide, rfl⟩, by decide⟩
  | unconfigured i hop hset =>
    refine .inr (answers_respondWith i .errUnconfigured 0 rfl ?_)
    cases i with
    | tickRx | tickTx | submit _ _ _ | collect | consume => simp [ResultCode.code]
    | setAddress _ | powerUp | powerDown | readStatus | readTimers | readAck | readConfig =>
      simp [Instr.opcode] at hop
  | observed i data hop =>
    refine .inr (answers_respondWith i .ok data rfl ?_)
    cases i with
    | readStatus | readTimers | readAck | readConfig => decide
    | setAddress _ | powerUp | powerDown | tickRx | tickTx | submit _ _ _ | collect | consume =>
      simp [Instr.opcode] at hop
  | collected hset hterminal => exact .inr (answers_respondWith _ _ _ (by simp) (collectCode_mem _))
  | notCollected hset hstate => exact .inr (answers_respondWith _ _ _ rfl (collectCode_mem _))
  | received hset => exact .inr (answers_respondWith _ _ _ (by simp [drain_frame]) (by decide))
  | _ => exact .inr (answers_respondWith _ _ _ (by simp) (by simp [ResultCode.code]))

end Sys2Proof.Machine
end

section
/-! PROOFS. Single commands: POWER_UP and POWER_DOWN, an accepted SUBMIT, and TICK_TX with nothing to send, with a burst
in flight and with a stand-alone ack (44_control.md, 43_send_coordinator.md R181, 42_transmit_attempter.md). -/

namespace Sys2Proof.Machine

/-! ### Power (R202, R203) -/

/-- Settles O18: both commands are one request and one result. -/
theorem powerCommandsPassThroughAndWriteNoRegister : Obligations.PowerCommandsPassThroughAndWriteNoRegister := by
  unfold Obligations.PowerCommandsPassThroughAndWriteNoRegister
  intro s
  have hword : resultWord .ok 0#24 = 0x00000000#32 := by decide
  refine ⟨decode_of_fields .powerUp rfl rfl rfl, decode_of_fields .powerDown rfl rfl rfl, ?up, ?down⟩
  case up =>
    refine ⟨respond .ok (xPowerUp s), rfl, ?_⟩
    simp [hword, answers, sameRegisters, sameIdentity, sameSubmission, sameDeadlines, sameAck, sameInbound, sameRun]
  case down =>
    refine ⟨respond .ok (xPowerDown s), rfl, ?_⟩
    simp [hword, answers, sameRegisters, sameIdentity, sameSubmission, sameDeadlines, sameAck, sameInbound, sameRun]

/-! ### SUBMIT (R181) -/

/-- The counter that SUBMIT answers, and the zeros above it (R181). -/
theorem submitData_fields (seq : Byte) :
    (submitData seq).extractLsb' 0 8 = seq ∧ (submitData seq).extractLsb' 8 16 = 0 :=
  ⟨BitVec.extractLsb'_append_eq_right, BitVec.extractLsb'_append_eq_left⟩

/-- Settles O21: the frame is `makeFrame` of the operands, this node's address and the incremented counter, which is
also the counter answered. -/
theorem acceptedSubmitStampsAndStoresTheFrame : Obligations.AcceptedSubmitStampsAndStoresTheFrame := by
  unfold Obligations.AcceptedSubmitStampsAndStoresTheFrame
  intro s receiver type payload hset hstate hdone
  obtain ⟨hseq, hzero⟩ := submitData_fields (s.seqCtr + 1)
  have hanswer : ∃ word, answers s (respondWith .ok (submitData (s.seqCtr + 1)) []
      (stampTransaction receiver type payload (askTxActive s))) word [] ∧ word.extractLsb' 0 8 = 0x00 ∧
      word.extractLsb' 8 8 = s.seqCtr + 1 ∧ word.extractLsb' 16 16 = 0 :=
    ⟨resultWord .ok (submitData (s.seqCtr + 1)), by simp [answers], resultWord_code _ _, (resultWord_data _ _ 0 8).trans hseq,
      (resultWord_data _ _ 8 16).trans hzero⟩
  refine ⟨_, exec_submit_of_free receiver type payload hset hstate hdone, ?_⟩
  simpa [sameIdentity, sameDeadlines, sameAck, sameInbound, sameRun] using hanswer

/-! ### TICK_TX with nothing to send (R152, R155) -/

theorem eligible_eq_false {s : State} (hpending : s.txState ≠ .pending)
    (hretry : s.txState = .waitingForChannel → s.tick ≠ s.retryDeadline) : eligible s = false := by
  simpa [Bool.eq_false_iff, eligible_iff, hpending] using hretry

theorem exec_tickTx_of_nothing {s : State} (hset : s.addrSet = true) (helig : eligible s = false)
    (hack : s.ackStaged = false ∨ s.cfg.standaloneAck = false) :
    exec .tickTx s =
      .next (respondWith .ok (TxFlags.data ⟨ackTimedOut s, false, false, false, false⟩) [] (checkTimeout s)) := by
  rw [exec_tickTx]
  obtain ⟨-, -, e⟩ | ⟨hsend, -⟩ := execTickTx_cases s hset
  · exact e
  · rw [eligible_checkTimeout, ackOnly_checkTimeout] at hsend
    obtain h | ⟨-, hstaged, halone⟩ := hsend
    · simp [helig] at h
    · simp [hstaged, halone] at hack

/-- The result word of a TICK_TX that only checks the timeout (R152). -/
theorem resultWord_timeoutOnly (timeout : Bool) :
    resultWord .ok (TxFlags.data ⟨timeout, false, false, false, false⟩) =
      if timeout then 0x00000100 else 0x00000000 := by
  cases timeout <;> decide

/-- Settles O33: the timeout check is the whole effect. -/
theorem tickTxWithNothingToSendOnlyChecksTheTimeout : Obligations.TickTxWithNothingToSendOnlyChecksTheTimeout := by
  unfold Obligations.TickTxWithNothingToSendOnlyChecksTheTimeout
  intro s hset hpending hretry hack
  refine ⟨_, exec_tickTx_of_nothing hset (eligible_eq_false hpending hretry) hack, ?_⟩
  simp only [← ackTimedOut_iff]
  cases hdue : ackTimedOut s <;>
    simp [hdue, resultWord_timeoutOnly, answers, sameIdentity, sameSubmission, sameDeadlines, sameAck, sameInbound,
      sameTransceiver, sameRun]

/-! ### The back-off delay (R160) -/

/-- Settles O35: `TICK & 0xFC` is at most 0xFC, so one more than it does not wrap. -/
theorem defaultBackoffDelayIsBetween1And253 : Obligations.DefaultBackoffDelayIsBetween1And253 := by
  unfold Obligations.DefaultBackoffDelayIsBetween1And253
  intro c tick hmask
  have hdelay : retryTick c tick - tick = 1 + (tick &&& 0xFC) := by
    rw [retryTick, hmask]
    ring
  have hle : (tick &&& 0xFC).toNat ≤ 252 := by
    rw [BitVec.toNat_and]
    exact Nat.and_le_right
  have hvalue : (1 + (tick &&& 0xFC) : Byte).toNat = 1 + (tick &&& 0xFC).toNat := by
    rw [BitVec.toNat_add]
    exact Nat.mod_eq_of_lt (Nat.lt_of_le_of_lt (Nat.add_le_add_left hle 1) (by decide))
  have hbounds : 1 ≤ (retryTick c tick - tick).toNat ∧ (retryTick c tick - tick).toNat ≤ 253 := by
    rw [hdelay, hvalue]
    omega
  refine ⟨hdelay, hbounds.1, hbounds.2, fun heq => ?_⟩
  simp [heq] at hbounds

/-! ### A burst in flight (R162) -/

/-- An eligible TICK_TX whose burst is not complete is held with what it has pushed. -/
theorem exec_tickTx_of_eligible_active {s : State} (hset : s.addrSet = true) (helig : eligible s = true)
    (hfree : busyAnswer s = false) (hactive : txActiveAnswer (askBusy s) = true) :
    exec .tickTx s = .next (setHeld (some (burstHold false s)) (askTxActive (pushBurst s))) := by
  have hdue := ackTimedOut_of_eligible helig
  obtain ⟨t, hexec, heffect⟩ := exec_effect .tickTx s
  rw [hexec]
  cases heffect with
  | burstHeld => rw [hdue, checkTimeout_of_not_due hdue]
  | unconfigured | nothingSent | deferred | ackKept | burstDone | observed => simp_all [Instr.opcode]

/-- Settles O37: what is pushed is `pushBurst`, and the wait keeps the flags it will answer. -/
theorem unfinishedBurstHoldsTickTx : Obligations.UnfinishedBurstHoldsTickTx := by
  unfold Obligations.UnfinishedBurstHoldsTickTx
  intro s hset hstate hfree hactive
  have helig : eligible s = true := (eligible_iff s).mpr hstate
  refine ⟨_, burstHold false s, exec_tickTx_of_eligible_active hset helig hfree hactive, ?_⟩
  simp [helig, hfree, resultWord_burst, ackFrame, typeAck, sameDeadlines, sameIdentity, sameSubmission, sameInbound]

/-! ### A stand-alone ack (R161) -/

/-- On a free channel the burst of a stand-alone ack is pushed, and one look ends the command or holds it. -/
theorem exec_tickTx_of_alone_free {s : State} (hset : s.addrSet = true) (helig : eligible s = false)
    (hstaged : s.ackStaged = true) (halone : s.cfg.standaloneAck = true) (hfree : busyAnswer s = false) :
    exec .tickTx s =
      .next (if txActiveAnswer (askBusy s) then
          setHeld (some (burstHold (ackTimedOut s) (checkTimeout s))) (askTxActive (pushBurst (checkTimeout s)))
        else finishBurst (burstHold (ackTimedOut s) (checkTimeout s)) (askTxActive (pushBurst (checkTimeout s)))) := by
  obtain ⟨t, hexec, heffect⟩ := exec_effect .tickTx s
  rw [hexec]
  cases heffect with
  | burstHeld hset hsend hfree hactive => rw [if_pos hactive]
  | burstDone hset hsend hfree hdone => rw [if_neg (by simp [hdone])]
  | unconfigured | nothingSent | deferred | ackKept | observed => simp_all [Instr.opcode]

theorem exec_tickTx_of_alone_busy {s : State} (hset : s.addrSet = true) (helig : eligible s = false)
    (hstaged : s.ackStaged = true) (halone : s.cfg.standaloneAck = true) (hbusy : busyAnswer s = true) :
    exec .tickTx s =
      .next (respondWith .ok (TxFlags.data ⟨ackTimedOut s, true, true, false, false⟩) [] (askBusy (checkTimeout s))) := by
  obtain ⟨t, hexec, heffect⟩ := exec_effect .tickTx s
  rw [hexec]
  cases heffect with
  | ackKept => rfl
  | unconfigured | nothingSent | deferred | burstHeld | burstDone | observed => simp_all [Instr.opcode]

/-- The result word of a stand-alone ack that was pushed (R152). -/
theorem resultWord_ackSent (timeout : Bool) :
    resultWord .ok (TxFlags.data ⟨timeout, true, false, true, false⟩) =
      if timeout then 0x00000B00 else 0x00000A00 := by
  cases timeout <;> decide

/-- The result word of an ack that the busy channel kept back (R152). -/
theorem resultWord_ackKept (timeout : Bool) :
    resultWord .ok (TxFlags.data ⟨timeout, true, true, false, false⟩) =
      if timeout then 0x00000700 else 0x00000600 := by
  cases timeout <;> decide

/-- Settles O38: a free channel, a busy one, and no leave to send the ack alone. -/
theorem standaloneAckGoesOutAloneOrStaysStaged : Obligations.StandaloneAckGoesOutAloneOrStaysStaged := by
  unfold Obligations.StandaloneAckGoesOutAloneOrStaysStaged
  intro s hset hstaged hpending hretry hheld
  have helig := eligible_eq_false hpending hretry
  simp only [← ackTimedOut_iff]
  refine ⟨fun halone hfree => ?free, fun halone hbusy => ?busy, fun halone => ?notAlone⟩
  case free =>
    refine ⟨_, burstHold (ackTimedOut s) (checkTimeout s),
      exec_tickTx_of_alone_free hset helig hstaged halone hfree, ?_⟩
    cases hlook : txActiveAnswer (askBusy s) <;>
      simp [hfree, hstaged, helig, resultWord_ackSent, ackFrame, typeAck, answers, sameIdentity, sameSubmission, sameDeadlines,
        sameInbound]
  case busy =>
    refine ⟨_, exec_tickTx_of_alone_busy hset helig hstaged halone hbusy, ?_⟩
    cases hdue : ackTimedOut s <;>
      simp [hdue, hbusy, resultWord_ackKept, answers, sameIdentity, sameSubmission, sameDeadlines, sameAck, sameInbound, sameRun]
  case notAlone =>
    refine ⟨_, exec_tickTx_of_nothing hset helig (.inr halone), ?_⟩
    simp [sameIdentity, sameSubmission, sameDeadlines, sameAck, sameInbound, sameTransceiver, sameRun]

end Sys2Proof.Machine
end

section
/-! PROOFS. The Receive Drainer: the clock step, the full slot, and what the loop does for every queue
(41_receive_drainer.md R121 to R131). -/

namespace Sys2Proof.Machine

theorem exec_tickRx_configured {s : State} (hset : s.addrSet = true) :
    exec .tickRx s =
      .next (respondWith .ok
        (tickRxData (drain s.cfg.rxBurstMax (clockStep s)).1 (drain s.cfg.rxBurstMax (clockStep s)).2.tick) []
        (drain s.cfg.rxBurstMax (clockStep s)).2) :=
  execTickRx_configured hset

/-- Settles O27: the clock step comes before the loop, which leaves the clock alone. -/
theorem tickRxAdvancesTheClockByOne : Obligations.TickRxAdvancesTheClockByOne := by
  unfold Obligations.TickRxAdvancesTheClockByOne
  intro s hset
  refine ⟨_, exec_tickRx_configured hset, ?_⟩
  simp [drain_frame, BitVec.toNat_add]

/-- TICK_RX's word from its fields, highest first (R98, R129). -/
theorem resultWord_tickRxData (n : Nat) (tick : Byte) :
    resultWord .ok (tickRxData n tick) = (0 : Byte) ++ tick ++ BitVec.ofNat 8 n ++ (0 : Byte) := rfl

/-- Settles O28: a full slot ends the loop before its first pull. -/
theorem tickRxPullsNothingWhileTheSlotIsFull : Obligations.TickRxPullsNothingWhileTheSlotIsFull := by
  unfold Obligations.TickRxPullsNothingWhileTheSlotIsFull
  intro s hset hfull
  have hexec := exec_tickRx_configured hset
  rw [drain_full _ (clockStep s) (by simp [hfull])] at hexec
  have hword := resultWord_tickRxData 0 (s.tick + 1)
  refine ⟨_, hexec, ?_⟩
  simp_all [answers, sameIdentity, sameSubmission, sameDeadlines, sameAck, sameInbound, sameTransceiver, sameRun]

/-! ### The loop for every queue (R122 to R131) -/

/-- Which frames are DATA for this node does not depend on what a pull changes. -/
theorem isDataForMe_receiveFrame_xPop (f : Frame) (rest : List Frame) (s : State) :
    isDataForMe (receiveFrame f (xPop f rest s)) = isDataForMe s := by
  funext g
  obtain ⟨-, e⟩ | ⟨-, -, -, e⟩ | ⟨-, -, e⟩ := receiveFrame_cases f (xPop f rest s) <;> simp [isDataForMe, e]

/-- Which frames acknowledge the transaction does not depend on what a pull changes. -/
theorem isAckForMe_receiveFrame_xPop (f : Frame) (rest : List Frame) (s : State) :
    isAckForMe (receiveFrame f (xPop f rest s)) = isAckForMe s := by
  funext g
  obtain ⟨-, e⟩ | ⟨-, -, -, e⟩ | ⟨-, -, e⟩ := receiveFrame_cases f (xPop f rest s) <;> simp [isAckForMe, e]

/-- A frame that is DATA for this node is no acknowledgement. -/
theorem isAckForMe_eq_false {s : State} {f : Frame} (h : isDataForMe s f = true) : isAckForMe s f = false := by
  simp_all [isDataForMe, isAckForMe]

theorem receiveFrame_xPop_of_data {f : Frame} {s : State} (rest : List Frame) (h : isDataForMe s f = true) :
    receiveFrame f (xPop f rest s) = acceptData f (xPop f rest s) := by
  have hpop : isDataForMe (xPop f rest s) f = isDataForMe s f := rfl
  obtain ⟨-, e⟩ | ⟨hno, -⟩ | ⟨hno, -⟩ := receiveFrame_cases f (xPop f rest s)
  · exact e
  all_goals simp [hpop, h] at hno

/-- What the slot and the staged ack become when this frame, if any, is accepted (R128). -/
def Stores (s t : State) : Option Frame → Prop
  | some f => t.rxFull = true ∧ t.rxFrame = f ∧ t.ackStaged = true ∧ t.ackDst = senderOf f ∧ t.ackSeq = seqOf f
  | none => sameInbound s t ∧ sameAck s t

theorem stores_some {s t : State} {f : Frame} :
    Stores s t (some f) ↔ t.rxFull = true ∧ t.rxFrame = f ∧ t.ackStaged = true ∧ t.ackDst = senderOf f ∧
      t.ackSeq = seqOf f := Iff.rfl

theorem stores_none {s t : State} : Stores s t none ↔ sameInbound s t ∧ sameAck s t := Iff.rfl

theorem stores_self (s : State) : Stores s s none := ⟨⟨rfl, rfl⟩, rfl, rfl, rfl⟩

/-- What is stored is said relative to any state with the same slot and the same staged ack. -/
theorem stores_of_same {s u t : State} {found : Option Frame} (hin : sameInbound s u) (hack : sameAck s u)
    (h : Stores u t found) : Stores s t found := by
  obtain ⟨hfull, hframe⟩ := hin
  obtain ⟨hstaged, hdst, hseq⟩ := hack
  cases found with
  | some f => exact h
  | none => simpa only [stores_none, sameInbound, sameAck, hfull, hframe, hstaged, hdst, hseq] using h

/-- What a pulled frame that is not DATA for this node does: at most it resolves the transaction (R127). -/
theorem receiveFrame_xPop_of_not_data {f : Frame} {s : State} (rest : List Frame) (h : isDataForMe s f = false) :
    sameInbound s (receiveFrame f (xPop f rest s)) ∧ sameAck s (receiveFrame f (xPop f rest s)) ∧
      (receiveFrame f (xPop f rest s)).txState =
        if s.txState = .waitingForAck ∧ isAckForMe s f = true then .succeeded else s.txState := by
  have hpop : isDataForMe (xPop f rest s) f = isDataForMe s f := rfl
  have hack : isAckForMe (xPop f rest s) f = isAckForMe s f := rfl
  obtain ⟨hyes, -⟩ | ⟨-, hacks, hwait, e⟩ | ⟨-, hnot, e⟩ := receiveFrame_cases f (xPop f rest s)
  · simp [hpop, h] at hyes
  · have hwait' : s.txState = .waitingForAck := by simpa using hwait
    rw [hack] at hacks
    simp [e, hacks, hwait', sameInbound, sameAck]
  · have hnot' : ¬ (s.txState = .waitingForAck ∧ isAckForMe s f = true) := by
      rw [hack] at hnot
      rintro ⟨hwait, hacks⟩
      obtain hn | hn := hnot
      · simp [hacks] at hn
      · exact hn (by simpa using hwait)
    simp only [e, hnot']
    simp [sameInbound, sameAck]

/-- The first DATA frame ends the loop (R122, R128). -/
theorem drain_cons_of_data {b : Nat} {s : State} {f : Frame} {rest : List Frame} (hslot : s.rxFull = false)
    (hq : s.rxq = f :: rest) (hdata : isDataForMe s f = true) :
    drain (b + 1) s = (1, acceptData f (xPop f rest s)) := by
  rw [drain_cons b s f rest hslot hq, receiveFrame_xPop_of_data rest hdata, drain_full _ _ (by simp)]

/-- How many frames the loop pulls from an empty slot on (R122). -/
theorem drain_count (b : Nat) {s : State} (hslot : s.rxFull = false) :
    (drain b s).1 = ((s.rxq.take b).findIdx? (isDataForMe s)).elim (min b s.rxq.length) (· + 1) := by
  induction b generalizing s with
  | zero => simp [drain]
  | succ b ih =>
    cases hq : s.rxq with
    | nil => simp [drain_empty _ s hq]
    | cons f rest =>
      cases hdata : isDataForMe s f with
      | true => simp [drain_cons_of_data hslot hq hdata, List.findIdx?_cons, hdata]
      | false =>
        obtain ⟨⟨hfull, -⟩, -, -⟩ := receiveFrame_xPop_of_not_data rest hdata
        have hrest := ih (hfull.trans hslot)
        rw [receiveFrame_xPop_rxq, isDataForMe_receiveFrame_xPop] at hrest
        rw [drain_cons b s f rest hslot hq, hrest]
        cases hfind : (rest.take b).findIdx? (isDataForMe s) <;>
          simp [List.findIdx?_cons, hdata, hfind, Nat.succ_min_succ]

/-- The slot and the staged ack after the loop: those of the DATA frame among the pulled ones, if there is one. -/
theorem drain_stores (b : Nat) {s : State} (hslot : s.rxFull = false) :
    Stores s (drain b s).2 ((s.rxq.take (drain b s).1).find? (isDataForMe s)) := by
  induction b generalizing s with
  | zero => exact stores_self s
  | succ b ih =>
    cases hq : s.rxq with
    | nil =>
      rw [drain_empty _ s hq]
      exact stores_self s
    | cons f rest =>
      cases hdata : isDataForMe s f with
      | true =>
        rw [drain_cons_of_data hslot hq hdata, List.take_succ_cons, List.find?_cons_of_pos hdata, stores_some]
        simp
      | false =>
        obtain ⟨hin, hack, -⟩ := receiveFrame_xPop_of_not_data rest hdata
        have hrest := ih (hin.1.trans hslot)
        rw [receiveFrame_xPop_rxq, isDataForMe_receiveFrame_xPop] at hrest
        rw [drain_cons b s f rest hslot hq, List.take_succ_cons, List.find?_cons_of_neg (Bool.eq_false_iff.mp hdata)]
        exact stores_of_same hin hack hrest

/-- The transaction after the loop: resolved exactly when it waited and its acknowledgement was pulled (R127). -/
theorem drain_txState (b : Nat) (s : State) :
    (drain b s).2.txState =
      if s.txState = .waitingForAck ∧ (s.rxq.take (drain b s).1).any (isAckForMe s) = true then .succeeded
      else s.txState := by
  induction b generalizing s with
  | zero => simp [drain]
  | succ b ih =>
    cases hslot : s.rxFull with
    | true => simp [drain_full _ s hslot]
    | false =>
      cases hq : s.rxq with
      | nil => simp [drain_empty _ s hq]
      | cons f rest =>
        cases hdata : isDataForMe s f with
        | true => simp [drain_cons_of_data hslot hq hdata, isAckForMe_eq_false hdata]
        | false =>
          obtain ⟨-, -, hstate⟩ := receiveFrame_xPop_of_not_data rest hdata
          have hrest := ih (receiveFrame f (xPop f rest s))
          rw [receiveFrame_xPop_rxq, isAckForMe_receiveFrame_xPop, hstate] at hrest
          rw [drain_cons b s f rest hslot hq, hrest, List.take_succ_cons, List.any_cons]
          generalize List.any _ (isAckForMe s) = later
          by_cases hwait : s.txState = .waitingForAck <;> cases isAckForMe s f <;> simp [hwait]

/-- Settles O29: the count, the queue and the record, what is stored, and the transaction, each said of the loop,
which starts after the clock step. -/
theorem tickRxDrainsUpToTheFirstDataFrame : Obligations.TickRxDrainsUpToTheFirstDataFrame := by
  unfold Obligations.TickRxDrainsUpToTheFirstDataFrame
  intro s hset hslot
  have hslot' : (clockStep s).rxFull = false := by simp [hslot]
  have hcount := drain_count s.cfg.rxBurstMax hslot'
  have hstores := drain_stores s.cfg.rxBurstMax hslot'
  have hstate := drain_txState s.cfg.rxBurstMax (clockStep s)
  obtain ⟨-, -, hrxq, hxlog⟩ := drain_pulls s.cfg.rxBurstMax (clockStep s)
  have hframe := drain_frame s.cfg.rxBurstMax (clockStep s)
  have hexec := exec_tickRx_configured hset
  generalize drain s.cfg.rxBurstMax (clockStep s) = r at hcount hstores hstate hrxq hxlog hframe hexec
  refine ⟨r.1, _, hexec, ?count, by simpa using hrxq, by simpa using hxlog, ?stores, by simpa using hstate, ?frame⟩
  case count =>
    have hcount' : r.1 = ((s.rxq.take s.cfg.rxBurstMax).findIdx? (isDataForMe s)).elim
        (min s.cfg.rxBurstMax s.rxq.length) (· + 1) := hcount
    cases hfind : (s.rxq.take s.cfg.rxBurstMax).findIdx? (isDataForMe s) <;> simpa [hfind] using hcount'
  case stores =>
    have hstores' : Stores s r.2 ((s.rxq.take r.1).find? (isDataForMe s)) := hstores
    cases hfind : (s.rxq.take r.1).find? (isDataForMe s) <;>
      simpa [hfind, stores_some, stores_none, sameInbound, sameAck] using hstores'
  case frame =>
    simp [hframe, answers, resultWord_tickRxData, sameIdentity, sameSubmission, sameDeadlines, sameRun]

end Sys2Proof.Machine
end

section
/-! PROOFS. One step: the events, the hold, and what every step keeps (20_memory.md R71, R72; 60_exceptions.md R231 to
R233; 70_reset_and_hazards.md R250, R251). -/

namespace Sys2Proof.Machine

/-! ### What a step can do -/

/-- What an event of the environment does (R233). A command and reset are no events, and change nothing here. -/
def applyEvent : Input → State → State
  | .frame f, s => arrive f s
  | .lose place, s => loseFrame place s
  | .carrier b, s => addCarrier b s
  | .txActive b, s => addTxAnswer b s
  | .command _ _, s => s
  | .reset, s => s

/-- An event writes no register, keeps the hold and answers nothing. -/
@[simp] theorem applyEvent_fields (e : Input) (s : State) :
    (applyEvent e s).cfg = s.cfg ∧ (applyEvent e s).myAddr = s.myAddr ∧ (applyEvent e s).addrSet = s.addrSet ∧
    (applyEvent e s).tick = s.tick ∧ (applyEvent e s).seqCtr = s.seqCtr ∧ (applyEvent e s).txState = s.txState ∧
    (applyEvent e s).txFrame = s.txFrame ∧ (applyEvent e s).txSeq = s.txSeq ∧
    (applyEvent e s).ackDeadline = s.ackDeadline ∧ (applyEvent e s).retryDeadline = s.retryDeadline ∧
    (applyEvent e s).ackStaged = s.ackStaged ∧ (applyEvent e s).ackDst = s.ackDst ∧
    (applyEvent e s).ackSeq = s.ackSeq ∧ (applyEvent e s).rxFull = s.rxFull ∧
    (applyEvent e s).rxFrame = s.rxFrame ∧ (applyEvent e s).held = s.held ∧ (applyEvent e s).draws = s.draws ∧
    (applyEvent e s).xlog = s.xlog ∧ (applyEvent e s).inputs = s.inputs ∧
    (applyEvent e s).responses = s.responses := by
  cases e <;> simp [applyEvent]

theorem step_of_event {s : State} {e : Input} {rest : List Input} (h : s.inputs = e :: rest)
    (he : IsEvent s.cfg e) : step s = .next (applyEvent e (setInputs rest s)) := by
  cases e with
  | frame f =>
    have hlen : f.length = s.cfg.frameLen := he
    simp [step, fetch, h, hlen, applyEvent]
  | lose place => simp [step, fetch, h, applyEvent]
  | carrier b => simp [step, fetch, h, applyEvent]
  | txActive b => simp [step, fetch, h, applyEvent]
  | command word data => exact he.elim
  | reset => exact he.elim

/-- Everything a step that answers can do, case by case. -/
inductive StepEffect (s : State) : State → Prop where
  /-- Nothing to do (R78). -/
  | idle (hinputs : s.inputs = []) (hheld : s.held = none) : StepEffect s s
  | event (e : Input) (rest : List Input) (hinputs : s.inputs = e :: rest) (he : IsEvent s.cfg e) :
      StepEffect s (applyEvent e (setInputs rest s))
  | reset (rest : List Input) (hinputs : s.inputs = .reset :: rest) : StepEffect s (applyReset (setInputs rest s))
  /-- The held TICK_TX waits on (R162). -/
  | waiting (h : Hold) (hheld : s.held = some h) (hactive : txActiveAnswer s = true) :
      StepEffect s (setHeld (some h) (askTxActive s))
  /-- The held TICK_TX ends (R162). -/
  | completed (h : Hold) (hheld : s.held = some h) (hdone : txActiveAnswer s = false) :
      StepEffect s (finishBurst h (askTxActive s))
  | command (word : Word) (data : List Byte) (rest : List Input) (i : Instr) (t : State)
      (ho : offered s word data rest) (hd : decode s.cfg word data = .command i)
      (heffect : CommandEffect (setInputs rest s) i t) : StepEffect s t
  /-- An illegal word (R96). -/
  | illegal (word : Word) (data : List Byte) (rest : List Input) (ho : offered s word data rest) :
      StepEffect s (respond .errIllegal (setInputs rest s))

theorem effect_of_step {s t : State} (h : step s = .next t) : StepEffect s t := by
  obtain ⟨hin, hheld, rfl⟩ | ⟨f, rest, hin, hlen, rfl⟩ | ⟨place, rest, hin, rfl⟩ | ⟨b, rest, hin, rfl⟩ |
    ⟨b, rest, hin, rfl⟩ | ⟨rest, hin, rfl⟩ | ⟨hd, hheld, rfl⟩ | ⟨word, data, rest, ho, hcommand⟩ := step_cases h
  · exact .idle hin hheld
  · exact .event (.frame f) rest hin hlen
  · exact .event (.lose place) rest hin trivial
  · exact .event (.carrier b) rest hin trivial
  · exact .event (.txActive b) rest hin trivial
  · exact .reset rest hin
  · obtain ⟨hactive, e⟩ | ⟨hdone, e⟩ := awaitBurst_cases hd s
    · exact e ▸ .waiting hd hheld hactive
    · exact e ▸ .completed hd hheld hdone
  · obtain ⟨i, hdecode, hexec⟩ | rfl := hcommand
    · exact .command word data rest i t ho hdecode (effect_of_exec hexec)
    · exact .illegal word data rest ho

/-! ### Commands and refused transfers (R71, R90, R11) -/

/-- Settles O7: the interface offers the transfer, and the decoder reads it. -/
theorem stepRunsTheDecodedCommand : Obligations.StepRunsTheDecodedCommand := by
  unfold Obligations.StepRunsTheDecodedCommand
  intro s word data rest i ho hd
  exact step_of_command ho hd

theorem decode_dataPhase {c : Config} {i : Instr} {data : List Byte} (hlen : data.length ≠ i.opcode.dataLen c) :
    decode c (encode i).1 data = .rejected .dataPhase := by
  simp [decode, opField_encode, reservedClear_encode, hlen]

/-- Settles O46: the word of a well-formed command passes the decoder's other checks, and the frame meets the length
check of its arrival. -/
theorem transfersOfAnotherLengthAreRefusedByName : Obligations.TransfersOfAnotherLengthAreRefusedByName := by
  unfold Obligations.TransfersOfAnotherLengthAreRefusedByName
  constructor
  · intro s i data rest hwf ho hlen
    have hd : decode s.cfg (encode i).1 data = .rejected .dataPhase :=
      decode_dataPhase ((wellFormed_iff s.cfg i).mp hwf ▸ hlen)
    exact step_of_rejected ho hd
  · intro s f rest hinputs hlen
    simp [step, fetch, hinputs, hlen]

/-! ### The hold (R72, R162) -/

/-- While TICK_TX is held, with no event and no reset at the inputs, the step is one look at the Transceiver. -/
theorem step_of_held {s : State} {h : Hold} (hheld : s.held = some h)
    (hinputs : s.inputs = [] ∨ ∃ word data rest, s.inputs = .command word data :: rest) :
    step s = .next (awaitBurst h s) := by
  obtain hin | ⟨word, data, rest, hin⟩ := hinputs <;> simp [step, fetch, hin, hheld]

theorem awaitBurst_of_active {s : State} (h : Hold) (hactive : txActiveAnswer s = true) :
    awaitBurst h s = setHeld (some h) (askTxActive s) := if_pos hactive

theorem awaitBurst_of_done {s : State} (h : Hold) (hdone : txActiveAnswer s = false) :
    awaitBurst h s = finishBurst h (askTxActive s) := if_neg (by simp [hdone])

/-- Settles O9: the look finds the Transceiver done, so the step is the end of TICK_TX. -/
theorem heldTickTxEndsWhenTheBurstCompletes : Obligations.HeldTickTxEndsWhenTheBurstCompletes := by
  unfold Obligations.HeldTickTxEndsWhenTheBurstCompletes
  intro s h hheld hdone hinputs
  refine ⟨_, step_of_held hheld hinputs, ?_⟩
  simp [awaitBurst_of_done h hdone, answers, sameIdentity, sameSubmission, sameAck, sameInbound]

theorem held_of_command {i : Instr} {s t : State} (h : CommandEffect s i t) (hi : i ≠ .tickTx) : t.held = s.held := by
  cases h with
  | nothingSent | deferred | ackKept | burstHeld | burstDone => exact absurd rfl hi
  | received => simp [drain_frame]
  | _ => simp

/-- Settles O8: only a pushed burst sets the hold; a look that finds the Transceiver active uses up one answer; an
event does to the Transceiver's side what it says. -/
theorem heldTickTxTakesNoCommandAndWritesNothing : Obligations.HeldTickTxTakesNoCommandAndWritesNothing := by
  unfold Obligations.HeldTickTxTakesNoCommandAndWritesNothing
  refine ⟨fun i s t hexec hheld => ?starts, fun s h hheld hactive hinputs => ?waits, fun s e rest hinputs he => ?event⟩
  case starts => exact not_not.mp fun hi => hheld (held_of_command (effect_of_exec hexec) hi)
  case waits =>
    refine ⟨_, step_of_held hheld hinputs, ?_⟩
    simp [awaitBurst_of_active h hactive, sameRegisters, sameIdentity, sameSubmission, sameDeadlines, sameAck,
      sameInbound]
  case event =>
    refine ⟨_, step_of_event hinputs he, ?_⟩
    cases e with
    | command word data => exact he.elim
    | reset => exact he.elim
    | frame _ | lose _ | carrier _ | txActive _ =>
      simp [applyEvent, sameRegisters, sameIdentity, sameSubmission, sameDeadlines, sameAck, sameInbound]

/-! ### What every step keeps -/

/-- Settles O11: of all cases only `addressAssigned`, on an unset address, and reset write the Device Identity. -/
theorem onlyResetUnsetsOrChangesASetAddress : Obligations.OnlyResetUnsetsOrChangesASetAddress := by
  unfold Obligations.OnlyResetUnsetsOrChangesASetAddress
  intro s t h hset
  cases effect_of_step h with
  | reset rest hinputs => exact .inr ⟨rest, hinputs⟩
  | command word data rest i t ho hd heffect =>
    left
    cases heffect with
    | addressAssigned addr hunset => simp [hset] at hunset
    | received => simp [drain_frame, hset]
    | _ => simp [hset]
  | _ => exact .inl (by simp [hset])

/-- A command keeps the parameters, and its answer and its requests go at the end of their logs. -/
theorem logs_grow_of_command {i : Instr} {s t : State} (h : CommandEffect s i t) :
    t.cfg = s.cfg ∧ s.responses <+: t.responses ∧ s.xlog <+: t.xlog := by
  cases h with
  | received =>
    obtain ⟨-, -, -, hxlog⟩ := drain_pulls s.cfg.rxBurstMax (clockStep s)
    have happended : s.xlog <+: (drain s.cfg.rxBurstMax (clockStep s)).2.xlog := ⟨_, hxlog.symm⟩
    exact ⟨by simp [drain_frame], by simp [drain_frame], happended⟩
  | _ => simp

/-- Settles O42: a command only appends to the logs, a finished hold answers once, and nothing else writes them. -/
theorem logsOnlyGrowAndParametersStay : Obligations.LogsOnlyGrowAndParametersStay := by
  unfold Obligations.LogsOnlyGrowAndParametersStay
  intro s t h
  cases effect_of_step h with
  | command word data rest i t ho hd heffect => simpa using logs_grow_of_command heffect
  | _ => simp

/-! ### The receive queue (R233) -/

theorem popped_append (a b : List XcvrOp) : popped (a ++ b) = popped a ++ popped b := List.filterMap_append

theorem popped_map_pop (fs : List Frame) : popped (fs.map .pop) = fs := by
  induction fs with
  | nil => rfl
  | cons f fs ih => exact congrArg (f :: ·) ih

/-- A command takes frames from the head of the queue only, and each one is on record. -/
theorem pulls_of_command {i : Instr} {s t : State} (h : CommandEffect s i t) :
    ∃ n, t.rxq = s.rxq.drop n ∧ popped t.xlog = popped s.xlog ++ s.rxq.take n := by
  cases h with
  | received =>
    obtain ⟨-, -, hrxq, hxlog⟩ := drain_pulls s.cfg.rxBurstMax (clockStep s)
    refine ⟨(drain s.cfg.rxBurstMax (clockStep s)).1, by simpa using hrxq, ?_⟩
    have hpopped := congrArg popped hxlog
    rw [popped_append, popped_map_pop] at hpopped
    simpa using hpopped
  | burstHeld | burstDone =>
    refine ⟨0, by simp, ?_⟩
    cases hack : s.ackStaged <;> cases helig : eligible s <;> simp [hack, helig, popped]
  | _ => exact ⟨0, by simp, by simp [popped]⟩

/-- Settles O12: an event adds or loses one frame, a command pulls from the head, and nothing else moves the queue. -/
theorem receiveQueueIsFirstInFirstOut : Obligations.ReceiveQueueIsFirstInFirstOut := by
  unfold Obligations.ReceiveQueueIsFirstInFirstOut
  intro s t h
  cases effect_of_step h with
  | command word data rest i t ho hd heffect => exact .inl (by simpa using pulls_of_command heffect)
  | event e rest hinputs he =>
    cases e with
    | frame f => exact .inr (.inl ⟨f, rest, hinputs, he, by simp [applyEvent]⟩)
    | lose place => exact .inr (.inr ⟨place, rest, hinputs, by simp [applyEvent]⟩)
    | carrier b | txActive b => exact .inl ⟨0, by simp [applyEvent], by simp⟩
    | command _ _ | reset => exact he.elim
  | _ => exact .inl ⟨0, by simp, by simp⟩

/-! ### TX_STATE (R44), terminal states and the inbound slot (R185, R187) -/

/-- What TICK_RX does to the transaction: at most it resolves it, by an acknowledgement that it pulled (R127). -/
theorem drain_moves_txState {s : State} {b : Nat} (hmove : (drain b s).2.txState ≠ s.txState) :
    s.txState = .waitingForAck ∧ s.rxFull = false ∧ (∃ f ∈ s.rxq.take (drain b s).1, isAckForMe s f = true) ∧
      (drain b s).2.txState = .succeeded := by
  have hstate := drain_txState b s
  have hslot : s.rxFull = false := by
    cases hfull : s.rxFull with
    | true => exact absurd (by rw [drain_full b s hfull]) hmove
    | false => rfl
  by_cases hacked : s.txState = .waitingForAck ∧ (s.rxq.take (drain b s).1).any (isAckForMe s) = true
  · rw [if_pos hacked] at hstate
    exact ⟨hacked.1, hslot, List.any_eq_true.mp hacked.2, hstate⟩
  · rw [if_neg hacked] at hstate
    exact absurd hstate hmove

/-- A TICK_TX whose one move is the timeout check's (R155). -/
theorem txMove_of_timeout {s t : State} (hstate : t.txState = (checkTimeout s).txState)
    (hmove : t.txState ≠ s.txState) : TxMove .tickTx s t := by
  cases hdue : ackTimedOut s with
  | true =>
    obtain ⟨hwait, hdeadline⟩ := (ackTimedOut_iff s).mp hdue
    exact .inr (.inr (.inr ⟨hwait, hdeadline, by simpa [hdue] using hstate⟩))
  | false => exact absurd (by simpa [hdue] using hstate) hmove

/-- Every command moves `TX_STATE` by its row of R44, if at all. -/
theorem txMove_of_command {i : Instr} {s t : State} (h : CommandEffect s i t) (hmove : t.txState ≠ s.txState) :
    TxMove i s t := by
  cases h with
  | received =>
    have hmove' : (drain s.cfg.rxBurstMax (clockStep s)).2.txState ≠ (clockStep s).txState := by simpa using hmove
    obtain ⟨hwait, hslot, hacked, hstate⟩ := drain_moves_txState hmove'
    obtain ⟨hbudget, -, hrxq, hxlog⟩ := drain_pulls s.cfg.rxBurstMax (clockStep s)
    refine ⟨by simpa using hwait, ⟨by simpa using hslot, (drain s.cfg.rxBurstMax (clockStep s)).1, hbudget,
      by simpa using hrxq, by simpa using hxlog, hacked⟩, by simpa using hstate⟩
  | nothingSent | ackKept | burstHeld => exact txMove_of_timeout (by simp) hmove
  | deferred hset helig hbusy =>
    obtain hpending | ⟨hdeferred, -⟩ := (eligible_iff s).mp helig
    · exact .inl ⟨hpending, hbusy, by simp⟩
    · exact absurd (by simp [hdeferred]) hmove
  | burstDone hset hsend hfree hdone =>
    cases helig : eligible s with
    | true =>
      obtain hpending | ⟨hdeferred, hretry⟩ := (eligible_iff s).mp helig
      · exact .inr (.inl ⟨hpending, hfree, by simp [helig]⟩)
      · exact .inr (.inr (.inl ⟨hdeferred, hretry, hfree, by simp [helig]⟩))
    | false => exact txMove_of_timeout (by simp [helig]) hmove
  | submitted _ _ _ hset hstate => exact ⟨hstate, by simp⟩
  | collected hset hterminal => exact ⟨hterminal, by simp⟩
  | _ => exact absurd (by simp) hmove

/-- The rows of R44 read nothing of the inputs. -/
theorem txMove_setInputs (i : Instr) (rest : List Input) (s t : State) :
    TxMove i (setInputs rest s) t ↔ TxMove i s t := by
  cases i <;> rfl

/-- What moves `TX_STATE` in one step: reset, a command by its row of R44, or the end of an eligible TICK_TX's wait. -/
theorem txState_move_of_step {s t : State} (h : StepEffect s t) (hmove : t.txState ≠ s.txState) :
    (∃ rest, s.inputs = .reset :: rest ∧ t.txState = .idle) ∨
      (∃ word data rest i, offered s word data rest ∧ decode s.cfg word data = .command i ∧ TxMove i s t) ∨
      (∃ hd, s.held = some hd ∧ hd.elig = true ∧ txActiveAnswer s = false ∧ t.txState = .waitingForAck) := by
  cases h with
  | reset rest hinputs => exact .inl ⟨rest, hinputs, by simp⟩
  | command word data rest i t ho hd heffect =>
    have htx := txMove_of_command heffect (by simpa using hmove)
    exact .inr (.inl ⟨word, data, rest, i, ho, hd, (txMove_setInputs i rest s t).mp htx⟩)
  | completed hd hheld hdone =>
    cases helig : hd.elig with
    | true => exact .inr (.inr ⟨hd, hheld, helig, hdone, by simp [helig]⟩)
    | false => exact absurd (by simp [helig]) hmove
  | _ => exact absurd (by simp) hmove

/-- Settles O41: an eligible hold is one over an eligible transaction. -/
theorem txStateMovesOnlyByTheTransitionsOfR44 : Obligations.TxStateMovesOnlyByTheTransitionsOfR44 := by
  unfold Obligations.TxStateMovesOnlyByTheTransitionsOfR44
  intro s t hhold hstep hmove
  obtain hreset | hcommand | ⟨h, hheld, helig, hdone, hstate⟩ := txState_move_of_step (effect_of_step hstep) hmove
  · exact .inl hreset
  · exact .inr (.inl hcommand)
  · obtain ⟨-, hsame, -⟩ := hhold h hheld
    exact .inr (.inr ⟨h, hheld, helig, hdone, (eligible_iff s).mp (hsame.symm.trans helig), hstate⟩)

theorem txMove_of_terminal {i : Instr} {s t : State} (h : TxMove i s t)
    (hterminal : s.txState = .succeeded ∨ s.txState = .timedOut) : i = .collect := by
  cases i with
  | collect => rfl
  | submit _ _ _ | tickTx | tickRx => obtain hs | hs := hterminal <;> simp [TxMove, hs] at h
  | setAddress _ | powerUp | powerDown | consume | readStatus | readTimers | readAck | readConfig => exact h.elim

/-- Settles O25: the one command whose row of R44 starts at a terminal state is COLLECT, and no eligible TICK_TX waits
at one. -/
theorem terminalStatePersistsUntilCollectOrReset : Obligations.TerminalStatePersistsUntilCollectOrReset := by
  unfold Obligations.TerminalStatePersistsUntilCollectOrReset
  intro s t hstep hhold hterminal
  by_cases hmove : t.txState = s.txState
  · exact .inl hmove
  obtain ⟨rest, hreset, -⟩ | ⟨word, data, rest, i, ho, hd, htx⟩ | ⟨-, -, -, -, hstate, -⟩ :=
    txStateMovesOnlyByTheTransitionsOfR44 s t hhold hstep hmove
  · exact .inr (.inl ⟨rest, hreset⟩)
  · exact .inr (.inr ⟨word, data, rest, ho, txMove_of_terminal htx hterminal ▸ hd⟩)
  · obtain hs | hs := hterminal <;> simp [hs] at hstate

/-- Settles O26: only an accepted DATA frame writes the slot, and the loop pulls nothing while it is full. -/
theorem occupiedInboundSlotIsNeverOverwritten : Obligations.OccupiedInboundSlotIsNeverOverwritten := by
  unfold Obligations.OccupiedInboundSlotIsNeverOverwritten
  intro s t h hfull hstill
  cases effect_of_step h with
  | reset => simp at hstill
  | command word data rest i t ho hd heffect =>
    cases heffect with
    | received =>
      have hclosed : (clockStep (setInputs rest s)).rxFull = true := by simp [hfull]
      simp [drain_full _ _ hclosed]
    | _ => simp
  | _ => simp

end Sys2Proof.Machine
end

section
/-! PROOFS. The invariants of R49: they hold after reset, and every step keeps them (10_state.md, 20_memory.md R76). -/

namespace Sys2Proof.Machine

/-! ### Reset (R50) -/

/-- Reset leaves the registers of R50, which meet the invariants, and the queued frames as they are. -/
theorem inv_applyReset {s : State} (hqueue : ∀ f ∈ s.rxq, f.length = s.cfg.frameLen) : (applyReset s).Inv := by
  refine ⟨⟨by simp, by simp, by simpa using hqueue⟩, ?stamped, ?quiet, ?hold⟩
  case stamped => simp [State.TransactionStamped]
  case quiet => simp [State.UnconfiguredQuiet]
  case hold => simp [State.HoldConsistent]

/-- Settles O40: the state after reset is what a reset leaves of it. -/
theorem resetMeetsTheInvariants : Obligations.ResetMeetsTheInvariants := by
  unfold Obligations.ResetMeetsTheInvariants
  have hreset (c : Config) : (State.resetWith c).Inv :=
    inv_applyReset (s := State.resetWith c) fun f hf => absurd hf List.not_mem_nil
  exact ⟨hreset, hreset Config.default⟩

/-! ### A step that writes no register -/

theorem eligible_congr {s t : State} (hstate : t.txState = s.txState) (htick : t.tick = s.tick)
    (hretry : t.retryDeadline = s.retryDeadline) : eligible t = eligible s := by
  simp only [eligible, hstate, htick, hretry]

theorem inv_of_sameRegisters {s t : State} (hcfg : t.cfg = s.cfg) (hsame : sameRegisters s t)
    (hheld : t.held = s.held) (hqueue : ∀ f ∈ t.rxq, f.length = s.cfg.frameLen) (h : s.Inv) : t.Inv := by
  obtain ⟨⟨haddr, hset⟩, htick, hstate, ⟨hctr, hframe, hseq⟩, ⟨-, hretry⟩, ⟨hstaged, -, -⟩, hfull, hinbound⟩ := hsame
  obtain ⟨⟨htxLen, hrxLen, -⟩, hstamped, hquiet, hhold⟩ := h
  refine ⟨⟨?_, ?_, ?_⟩, ?stamped, ?quiet, ?hold⟩
  · rw [hframe, hcfg, htxLen]
  · rw [hinbound, hcfg, hrxLen]
  · rwa [hcfg]
  case stamped => simpa only [State.TransactionStamped, hstate, hframe, hseq, haddr] using hstamped
  case quiet => simpa only [State.UnconfiguredQuiet, hset, hstate, hstaged, hfull, htick, hctr, hheld] using hquiet
  case hold =>
    simpa only [State.HoldConsistent, hheld, hstaged, eligible_congr hstate htick hretry] using hhold

/-! ### Commands, one invariant at a time -/

theorem frameLen_makeFrame {c : Config} {payload : List Byte} (hlen : payload.length = c.payloadLen)
    (snd rcv : Addr) (seq type : Byte) : (makeFrame snd rcv seq type payload).length = c.frameLen := by
  simp [Config.frameLen, hlen]

/-- The loop stores a frame that was queued, and drops frames from the queue. -/
theorem framesFit_drain (b : Nat) {s : State} (h : s.FramesFit) : (drain b s).2.FramesFit := by
  refine drain_keeps State.FramesFit (fun s f rest _ hq hfit => ?_) b s h
  obtain ⟨htx, hrx, hqueue⟩ := hfit
  rw [hq, List.forall_mem_cons] at hqueue
  obtain ⟨hf, hrest⟩ := hqueue
  obtain ⟨-, e⟩ | ⟨-, -, -, e⟩ | ⟨-, -, e⟩ := receiveFrame_cases f (xPop f rest s) <;> rw [e]
  · exact ⟨htx, hf, hrest⟩
  · exact ⟨htx, hrx, hrest⟩
  · exact ⟨htx, hrx, hrest⟩

theorem framesFit_of_command {i : Instr} {s t : State} (hwf : i.wellFormed s.cfg = true) (h : s.FramesFit)
    (heffect : CommandEffect s i t) : t.FramesFit := by
  cases heffect with
  | received => simpa [State.FramesFit] using framesFit_drain s.cfg.rxBurstMax (s := clockStep s) h
  | submitted receiver type payload =>
    obtain ⟨-, hrx, hqueue⟩ := h
    have hlen : payload.length = s.cfg.payloadLen := beq_iff_eq.mp hwf
    exact ⟨by simp [frameLen_makeFrame hlen], by simpa using hrx, by simpa using hqueue⟩
  | _ => simpa [State.FramesFit] using h

theorem stamped_of_same {s t : State} (haddr : t.myAddr = s.myAddr) (hframe : t.txFrame = s.txFrame)
    (hseq : t.txSeq = s.txSeq) (hidle : s.txState = .idle → t.txState = .idle) (h : s.TransactionStamped) :
    t.TransactionStamped := by
  intro hstate
  rw [hframe, hseq, haddr]
  exact h fun hs => hstate (hidle hs)

/-- No command but SUBMIT begins a transaction (R44). -/
theorem idle_of_txMove {i : Instr} {s t : State} (hidle : s.txState = .idle) (h : TxMove i s t) :
    i.opcode = .submit := by
  cases i with
  | submit _ _ _ => rfl
  | tickTx | tickRx | collect => simp [TxMove, hidle] at h
  | setAddress _ | powerUp | powerDown | consume | readStatus | readTimers | readAck | readConfig => exact h.elim

/-- Only SUBMIT writes the frame, and it stamps it; the address changes only while there is no transaction. -/
theorem stamped_of_command {i : Instr} {s t : State} (hquiet : s.UnconfiguredQuiet) (h : s.TransactionStamped)
    (heffect : CommandEffect s i t) : t.TransactionStamped := by
  have hidle (hi : i.opcode ≠ .submit) (hs : s.txState = .idle) : t.txState = .idle := by
    by_contra hmove
    exact hi (idle_of_txMove hs (txMove_of_command heffect (hs ▸ hmove)))
  cases heffect with
  | addressAssigned addr hunset =>
    obtain ⟨hs, -⟩ := hquiet hunset
    exact fun hstate => absurd (by simpa using hs) hstate
  | submitted => simp [State.TransactionStamped]
  | received =>
    exact stamped_of_same (by simp [drain_frame]) (by simp [drain_frame]) (by simp [drain_frame]) (hidle (by decide)) h
  | nothingSent | deferred | ackKept | burstHeld | burstDone =>
    exact stamped_of_same (by simp) (by simp) (by simp) (hidle (by decide)) h
  | _ => exact stamped_of_same (by simp) (by simp) (by simp) (fun hs => by simp [hs]) h

theorem quiet_of_command {i : Instr} {s t : State} (h : s.UnconfiguredQuiet) (heffect : CommandEffect s i t) :
    t.UnconfiguredQuiet := by
  cases heffect with
  | unconfigured | observed | poweredUp | poweredDown => simpa [State.UnconfiguredQuiet] using h
  | received hset => simp [State.UnconfiguredQuiet, drain_frame, hset]
  | _ => simp_all [State.UnconfiguredQuiet]

/-- A command is taken with no TICK_TX held, and leaves one held only with its burst pushed. -/
theorem hold_of_command {i : Instr} {s t : State} (hheld : s.held = none) (heffect : CommandEffect s i t) :
    t.HoldConsistent := by
  cases heffect with
  | burstHeld => simp [State.HoldConsistent, eligible]
  | received => simp [State.HoldConsistent, drain_frame, hheld]
  | _ => simp [State.HoldConsistent, hheld]

theorem inv_of_command {i : Instr} {s t : State} (hwf : i.wellFormed s.cfg = true) (hheld : s.held = none)
    (h : s.Inv) (heffect : CommandEffect s i t) : t.Inv := by
  obtain ⟨hfit, hstamped, hquiet, -⟩ := h
  exact ⟨framesFit_of_command hwf hfit heffect, stamped_of_command hquiet hstamped heffect,
    quiet_of_command hquiet heffect, hold_of_command hheld heffect⟩

/-! ### The other steps -/

/-- The end of TICK_TX's wait: an eligible one had a transaction, and no command is in progress afterwards. -/
theorem inv_of_completed {s : State} {hd : Hold} (h : s.Inv) (hheld : s.held = some hd) :
    (finishBurst hd (askTxActive s)).Inv := by
  obtain ⟨hfit, hstamped, hquiet, hhold⟩ := h
  refine ⟨by simpa [State.FramesFit] using hfit, ?stamped, ?quiet, by simp [State.HoldConsistent]⟩
  case stamped =>
    refine stamped_of_same (by simp) (by simp) (by simp) (fun hs => ?_) hstamped
    obtain ⟨-, helig, -⟩ := hhold hd hheld
    have hnot : hd.elig = false := by simp [helig, eligible, hs]
    simp [hnot, hs]
  case quiet =>
    intro hunset
    obtain ⟨-, -, -, -, -, hnone⟩ := hquiet (by simpa using hunset)
    simp [hheld] at hnone

/-- An event brings in only frames of the right length. -/
theorem queue_of_event {s : State} {e : Input} (rest : List Input) (he : IsEvent s.cfg e)
    (hqueue : ∀ f ∈ s.rxq, f.length = s.cfg.frameLen) :
    ∀ f ∈ (applyEvent e (setInputs rest s)).rxq, f.length = s.cfg.frameLen := by
  cases e with
  | frame f => exact List.forall_mem_append.mpr ⟨hqueue, List.forall_mem_singleton.mpr he⟩
  | lose place => exact fun f hf => hqueue f (List.mem_of_mem_eraseIdx hf)
  | carrier b | txActive b => exact hqueue
  | command _ _ | reset => exact he.elim

/-- Settles O39: events, a look that finds the Transceiver active and illegal words write no register; reset, a
completed wait and each command meet the invariants by their own lemmas. -/
theorem everyStepKeepsTheInvariants : Obligations.EveryStepKeepsTheInvariants := by
  unfold Obligations.EveryStepKeepsTheInvariants
  intro s t h hstep
  have ⟨⟨_, _, hqueue⟩, _⟩ := h
  cases effect_of_step hstep with
  | idle => exact h
  | event e rest hinputs he =>
    refine inv_of_sameRegisters (by simp) ?_ (by simp) (queue_of_event rest he hqueue) h
    simp [sameRegisters, sameIdentity, sameSubmission, sameDeadlines, sameAck, sameInbound]
  | reset rest => exact inv_applyReset hqueue
  | waiting hd hheld =>
    refine inv_of_sameRegisters (by simp) ?_ (by simp [hheld]) (by simpa using hqueue) h
    simp [sameRegisters, sameIdentity, sameSubmission, sameDeadlines, sameAck, sameInbound]
  | completed hd hheld => exact inv_of_completed h hheld
  | command word data rest i t ho hd heffect =>
    exact inv_of_command (s := setInputs rest s) (wellFormed_of_decode hd) ho.2 h heffect
  | illegal word data rest =>
    obtain ⟨hsame, -⟩ := respond_setInputs_frame .errIllegal rest s
    exact inv_of_sameRegisters (by simp) hsame (by simp) (by simpa using hqueue) h

end Sys2Proof.Machine
end

section
/-! PROOFS. Runs: starvation by a busy channel, and the timeout of an unanswered transaction (42_transmit_attempter.md
R155, R165, R167; 70_reset_and_hazards.md R262). -/

namespace Sys2Proof.Machine

/-! ### A deferred transaction (R165) -/

/-- No command moves a deferred transaction, nor holds TICK_TX over it, but a TICK_TX at its retry tick that finds the
channel free. -/
theorem deferred_of_command {i : Instr} {s t : State} (heffect : CommandEffect s i t)
    (hstate : s.txState = .waitingForChannel) (hheld : s.held = none)
    (hbusy : i = .tickTx → s.tick = s.retryDeadline → busyAnswer s = true) :
    t.txState = .waitingForChannel ∧ ∀ h ∈ t.held, h.elig = false := by
  constructor
  · by_contra hmove
    have htx := txMove_of_command heffect (hstate ▸ hmove)
    cases i with
    | tickTx => simp_all [TxMove]
    | submit _ _ _ | tickRx | collect => simp [TxMove, hstate] at htx
    | setAddress _ | powerUp | powerDown | consume | readStatus | readTimers | readAck | readConfig => exact htx.elim
  · cases heffect with
    | burstHeld hset hsend hfree hactive =>
      have hnot : eligible s = false := by
        refine eligible_eq_false (by simp [hstate]) fun _ hretry => ?_
        simp [hbusy rfl hretry] at hfree
      simp [hnot]
    | received => simp [drain_frame, hheld]
    | _ => simp [hheld]

/-- Settles O45: events, looks at the Transceiver and illegal words leave the transaction alone, the end of a stand-alone
ack's wait too, and the commands by `deferred_of_command`. -/
theorem deferredTransactionStaysUntilAFreeChannelAtItsRetryTick :
    Obligations.DeferredTransactionStaysUntilAFreeChannelAtItsRetryTick := by
  unfold Obligations.DeferredTransactionStaysUntilAFreeChannelAtItsRetryTick
  intro s t hstate hhold hstep hreset hbusy
  cases effect_of_step hstep with
  | idle => exact ⟨hstate, hhold⟩
  | event => exact ⟨by simp [hstate], by simpa using hhold⟩
  | reset rest hinputs => exact absurd ⟨rest, hinputs⟩ hreset
  | waiting h hheld => exact ⟨by simp [hstate], by simpa using hhold h hheld⟩
  | completed h hheld => exact ⟨by simp [hhold h hheld, hstate], by simp⟩
  | command word data rest i t ho hd heffect =>
    exact deferred_of_command heffect (by simpa using hstate) ho.2 fun hi => hbusy word data rest ho (hi ▸ hd)
  | illegal => exact ⟨by simp [hstate], by simpa using hhold⟩

/-! ### What a step takes from the environment's lists -/

theorem inputs_carrier_of_command {i : Instr} {s t : State} (h : CommandEffect s i t) :
    t.inputs = s.inputs ∧ (t.carrier = s.carrier ∨ t.carrier = s.carrier.tail) := by
  cases h with
  | received => simp [drain_frame]
  | _ => simp

/-- A step takes at most the next input and at most one answer of `XBusy()`, and only an event adds an answer. -/
theorem supplies_of_step {s t : State} (h : StepEffect s t) :
    (∀ e ∈ t.inputs, e ∈ s.inputs) ∧
      (t.carrier = s.carrier ∨ t.carrier = s.carrier.tail ∨
        ∃ b, Input.carrier b ∈ s.inputs ∧ t.carrier = s.carrier ++ [b]) := by
  cases h with
  | idle => exact ⟨fun e he => he, .inl rfl⟩
  | event e rest hinputs =>
    refine ⟨fun x hx => by simp_all, ?_⟩
    cases e with
    | carrier b => exact .inr (.inr ⟨b, by simp [hinputs], by simp [applyEvent]⟩)
    | _ => exact .inl (by simp [applyEvent])
  | reset rest hinputs => exact ⟨fun x hx => by simp_all, .inl (by simp)⟩
  | waiting | completed => simp
  | command word data rest i t ho hd heffect =>
    obtain ⟨hin, hcarrier⟩ := inputs_carrier_of_command heffect
    exact ⟨fun x hx => by simp_all, hcarrier.imp_right .inl⟩
  | illegal word data rest ho => exact ⟨fun x hx => by simp_all, .inl (by simp)⟩

/-! ### Starvation (R165, R262) -/

/-- A run of several steps that answers begins with a step that answers. -/
theorem core_run_succ_inv {s t : State} {n : Nat} (h : Sys2Proof.core.run (n + 1) s = .next t) :
    ∃ u, step s = .next u ∧ Sys2Proof.core.run n u = .next t := by
  have general (M : Host.Core) (a b : M.State) (h : M.run (n + 1) a = .next b) :
      ∃ c, M.step a = .next c ∧ M.run n c = .next b := by
    cases hstep : M.step a with
    | next c => exact ⟨c, rfl, by simpa [Host.Core.run, hstep] using h⟩
    | fault r => simp [Host.Core.run, hstep] at h
    | refused r => simp [Host.Core.run, hstep] at h
  exact general Sys2Proof.core s t h

/-- A deferred transaction with a busy answer of `XBusy()` for each of `k` more steps; no reset and no free answer is to
come. -/
structure Starving (k : Nat) (s : State) : Prop where
  deferred : s.txState = .waitingForChannel
  notEligible : ∀ h ∈ s.held, h.elig = false
  busy : ∀ b ∈ s.carrier, b = true
  enough : k ≤ s.carrier.length
  inputs : ∀ i ∈ s.inputs, i ≠ .reset ∧ i ≠ .carrier false

theorem Starving.busyAnswer {k : Nat} {s : State} (h : Starving (k + 1) s) : busyAnswer s = true := by
  obtain ⟨b, rest, hcarrier⟩ := List.exists_cons_of_length_pos (Nat.lt_of_lt_of_le k.succ_pos h.enough)
  have hb : b = true := h.busy b (by simp [hcarrier])
  simp [Machine.busyAnswer, hcarrier, hb]

/-- A step of a starving run uses up at most one of its busy answers. -/
theorem Starving.step {k : Nat} {s t : State} (h : Starving (k + 1) s) (hstep : Machine.step s = .next t) :
    Starving k t := by
  obtain ⟨hstate, hhold⟩ := deferredTransactionStaysUntilAFreeChannelAtItsRetryTick s t h.deferred h.notEligible hstep
    (fun ⟨rest, hreset⟩ => (h.inputs .reset (by simp [hreset])).1 rfl) (fun _ _ _ _ _ _ => h.busyAnswer)
  obtain ⟨hinputs, hcarrier⟩ := supplies_of_step (effect_of_step hstep)
  have hbusy := h.busy
  have henough := h.enough
  have hcs : (∀ b ∈ t.carrier, b = true) ∧ k ≤ t.carrier.length := by
    obtain e | e | ⟨b, hb, e⟩ := hcarrier
    · rw [e]
      exact ⟨hbusy, by omega⟩
    · rw [e, List.length_tail]
      exact ⟨fun b hb => hbusy b (List.mem_of_mem_tail hb), by omega⟩
    · have hb' : b = true := by
        cases b with
        | true => rfl
        | false => exact absurd rfl (h.inputs _ hb).2
      rw [e, List.length_append]
      exact ⟨List.forall_mem_append.mpr ⟨hbusy, List.forall_mem_singleton.mpr hb'⟩, by omega⟩
  exact ⟨hstate, hhold, hcs.1, hcs.2, fun i hi => h.inputs i (hinputs i hi)⟩

theorem Starving.run {k : Nat} {s t : State} (h : Starving k s) (hrun : Sys2Proof.core.run k s = .next t) :
    Starving 0 t := by
  induction k generalizing s with
  | zero =>
    obtain rfl : s = t := Host.Outcome.next.inj hrun
    exact h
  | succ k ih =>
    obtain ⟨u, hstep, hrest⟩ := core_run_succ_inv hrun
    exact ih (h.step hstep) hrest

/-- The host's two commands that drive the clock and the attempts, as their words (R94). -/
def IsDrive (e : Input) : Prop := e = .command 0x00000010 [] ∨ e = .command 0x00000011 []

theorem decode_tickRx (c : Config) : decode c 0x00000010 [] = .command .tickRx :=
  decode_of_fields .tickRx rfl rfl rfl

theorem decode_tickTx (c : Config) : decode c 0x00000011 [] = .command .tickTx :=
  decode_of_fields .tickTx rfl rfl rfl

/-- On a busy channel no TICK_TX is held. -/
theorem held_of_busy {i : Instr} {s t : State} (heffect : CommandEffect s i t) (hbusy : busyAnswer s = true)
    (hheld : s.held = none) : t.held = none := by
  cases heffect with
  | burstHeld hset hsend hfree => simp [hbusy] at hfree
  | received => simp [drain_frame, hheld]
  | _ => simp [hheld]

/-- A driving command is taken and answered in its own step, while the channel is busy. -/
theorem step_of_drive {s : State} {e : Input} {rest : List Input} (hinputs : s.inputs = e :: rest) (he : IsDrive e)
    (hheld : s.held = none) (hbusy : busyAnswer s = true) :
    ∃ t, step s = .next t ∧ t.held = none ∧ t.inputs = rest := by
  have ⟨i, word, hword, hd⟩ : ∃ i word, e = .command word [] ∧ decode s.cfg word [] = .command i := by
    obtain rfl | rfl := he
    · exact ⟨_, _, rfl, decode_tickRx s.cfg⟩
    · exact ⟨_, _, rfl, decode_tickTx s.cfg⟩
  obtain ⟨t, hexec, heffect⟩ := exec_effect i (setInputs rest s)
  obtain ⟨hrest, -⟩ := inputs_carrier_of_command heffect
  exact ⟨t, (step_of_command ⟨hword ▸ hinputs, hheld⟩ hd).trans hexec, held_of_busy heffect hbusy hheld, hrest⟩

/-- A host that only drives a starving transaction comes to the end of its commands. -/
theorem Starving.drive {k : Nat} {s : State} (h : Starving k s) (hheld : s.held = none) (hlen : s.inputs.length = k)
    (hdrive : ∀ e ∈ s.inputs, IsDrive e) :
    ∃ t, Sys2Proof.core.run k s = .next t ∧ t.txState = .waitingForChannel ∧ t.held = none ∧ t.inputs = [] := by
  induction k generalizing s with
  | zero => exact ⟨s, rfl, h.deferred, hheld, List.eq_nil_of_length_eq_zero hlen⟩
  | succ k ih =>
    obtain ⟨e, rest, hinputs⟩ := List.exists_cons_of_length_eq_add_one hlen
    rw [hinputs] at hdrive hlen
    obtain ⟨he, hrest⟩ := List.forall_mem_cons.mp hdrive
    obtain ⟨u, hstep, huheld, huin⟩ := step_of_drive hinputs he hheld h.busyAnswer
    rw [core_run_succ s u k hstep]
    exact ih (h.step hstep) huheld (huin ▸ Nat.succ.inj hlen) (huin ▸ hrest)

/-- Settles O43: each step of a starving run leaves a starving state, and a driving command is always taken. -/
theorem busyChannelStarvesTheTransactionForEver : Obligations.BusyChannelStarvesTheTransactionForEver := by
  unfold Obligations.BusyChannelStarvesTheTransactionForEver
  constructor
  · intro k s t hstate hhold hbusy henough hinputs hrun
    have hlast := Starving.run ⟨hstate, hhold, hbusy, henough, hinputs⟩ hrun
    exact ⟨hlast.deferred, hlast.notEligible⟩
  · intro k s _ hstate hheld hbusy hlen henough hdrive
    have hinputs : ∀ i ∈ s.inputs, i ≠ .reset ∧ i ≠ .carrier false := by
      intro i hi
      obtain rfl | rfl := hdrive i hi <;> simp
    exact Starving.drive ⟨hstate, by simp [hheld], hbusy, henough, hinputs⟩ hheld hlen hdrive

/-! ### The timeout of an unanswered transaction (R155, R167) -/

/-- A transaction that waits for its ack, with no ack to send and no frame queued. -/
structure Unanswered (s : State) : Prop where
  configured : s.addrSet = true
  waiting : s.txState = .waitingForAck
  free : s.held = none
  noAck : s.ackStaged = false
  noFrame : s.rxq = []

/-- The host's round: one TICK_RX and one TICK_TX. -/
def tickRound : List Input := [.command 0x00000010 [], .command 0x00000011 []]

/-- TICK_RX of an unanswered transaction only advances the clock. -/
theorem Unanswered.step_tickRx {s : State} {rest : List Input} (h : Unanswered s)
    (hinputs : s.inputs = .command 0x00000010 [] :: rest) :
    ∃ u, step s = .next u ∧ Unanswered u ∧ u.tick = s.tick + 1 ∧ u.ackDeadline = s.ackDeadline ∧ u.inputs = rest := by
  have hexec := exec_tickRx_configured (s := setInputs rest s) h.configured
  rw [drain_empty _ (clockStep (setInputs rest s)) (by simp [h.noFrame])] at hexec
  refine ⟨_, (step_of_command ⟨hinputs, h.free⟩ (decode_tickRx s.cfg)).trans hexec, ⟨?_, ?_, ?_, ?_, ?_⟩, ?_⟩ <;>
    simp [h.configured, h.waiting, h.free, h.noAck, h.noFrame]

/-- TICK_TX of an unanswered transaction only checks its timeout. -/
theorem Unanswered.step_tickTx {s : State} {rest : List Input} (h : Unanswered s)
    (hinputs : s.inputs = .command 0x00000011 [] :: rest) :
    ∃ t, step s = .next t ∧ t.tick = s.tick ∧ t.ackDeadline = s.ackDeadline ∧ t.inputs = rest ∧
      if s.tick = s.ackDeadline then t.txState = .timedOut else Unanswered t := by
  have helig : eligible (setInputs rest s) = false := by simp [eligible, h.waiting]
  have hexec := exec_tickTx_of_nothing (s := setInputs rest s) h.configured helig (.inl h.noAck)
  refine ⟨_, (step_of_command ⟨hinputs, h.free⟩ (decode_tickTx s.cfg)).trans hexec, by simp, by simp, by simp, ?_⟩
  split_ifs with hdue
  · simp [ackTimedOut, h.waiting, hdue]
  · exact ⟨by simp [h.configured], by simp [ackTimedOut, h.waiting, hdue], by simp [h.free], by simp [h.noAck],
      by simp [h.noFrame]⟩

theorem Unanswered.step_round {s : State} {rest : List Input} (h : Unanswered s)
    (hinputs : s.inputs = tickRound ++ rest) :
    ∃ u t, step s = .next u ∧ u.txState = .waitingForAck ∧ step u = .next t ∧ t.tick = s.tick + 1 ∧
      t.ackDeadline = s.ackDeadline ∧ t.inputs = rest ∧
      if s.tick + 1 = s.ackDeadline then t.txState = .timedOut else Unanswered t := by
  obtain ⟨u, hu, hwaits, htick, hdeadline, hin⟩ := h.step_tickRx hinputs
  obtain ⟨t, ht, htick', hdeadline', hin', hend⟩ := hwaits.step_tickTx hin
  rw [htick, hdeadline] at hend
  exact ⟨u, t, hu, hwaits.waiting, ht, htick'.trans htick, hdeadline'.trans hdeadline, hin', hend⟩

/-- A deadline 2 to 256 ticks ahead is not met by the next tick: the clock has not gone round. -/
theorem next_tick_ne_deadline {n : Nat} (hn : n + 2 ≤ 256) (tick : Byte) :
    tick + 1 ≠ tick + BitVec.ofNat 8 (n + 2) := by
  intro heq
  have hone : (1 : Byte) = BitVec.ofNat 8 (n + 2) := add_left_cancel heq
  have hnum := congrArg BitVec.toNat hone
  simp at hnum
  omega

theorem deadline_shift (n : Nat) (tick : Byte) :
    tick + BitVec.ofNat 8 (n + 2) = tick + 1 + BitVec.ofNat 8 (n + 1) := by
  apply BitVec.eq_of_toNat_eq
  simp
  omega

theorem Unanswered.run (n : Nat) {s : State} (h : Unanswered s) (hn : n + 1 ≤ 256)
    (hdeadline : s.ackDeadline = s.tick + BitVec.ofNat 8 (n + 1))
    (hinputs : s.inputs = (List.replicate (n + 1) tickRound).flatten) :
    ∃ t, Sys2Proof.core.run (2 * n + 2) s = .next t ∧ t.txState = .timedOut ∧ t.tick = s.ackDeadline ∧
      ∃ u, Sys2Proof.core.run (2 * n + 1) s = .next u ∧ u.txState = .waitingForAck := by
  induction n generalizing s with
  | zero =>
    obtain ⟨u, t, hu, hwaits, ht, htick, -, -, hend⟩ := h.step_round (rest := []) hinputs
    have hdue : s.tick + 1 = s.ackDeadline := hdeadline.symm
    rw [if_pos hdue] at hend
    refine ⟨t, ?_, hend, htick.trans hdue, u, core_run_succ s u 0 hu, hwaits⟩
    exact (core_run_succ s u 1 hu).trans (core_run_succ u t 0 ht)
  | succ n ih =>
    rw [List.replicate_succ, List.flatten_cons] at hinputs
    obtain ⟨v, w, hv, -, hw, htick, hsame, hin, hend⟩ := h.step_round hinputs
    rw [if_neg (hdeadline ▸ next_tick_ne_deadline hn s.tick)] at hend
    have hdeadline' : w.ackDeadline = w.tick + BitVec.ofNat 8 (n + 1) := by
      rw [hsame, htick, hdeadline, deadline_shift]
    obtain ⟨t, ht, hout, htick', u, hu, hwaits⟩ := ih hend (by omega) hdeadline' hin
    have htwo (k : Nat) : Sys2Proof.core.run (k + 2) s = Sys2Proof.core.run k w :=
      (core_run_succ s v (k + 1) hv).trans (core_run_succ v w k hw)
    exact ⟨t, (htwo (2 * n + 2)).trans ht, hout, htick'.trans hsame, u, (htwo (2 * n + 1)).trans hu, hwaits⟩

/-- Settles O44: one round is one tick and one timeout check, and the clock meets the deadline in the last round only. -/
theorem unansweredTransactionTimesOutAfterItsTicks : Obligations.UnansweredTransactionTimesOutAfterItsTicks := by
  unfold Obligations.UnansweredTransactionTimesOutAfterItsTicks
  intro d s hset hstate hheld hstaged hrxq hpos hle hdeadline hinputs
  obtain ⟨n, rfl⟩ := Nat.exists_eq_add_of_le' hpos
  exact Unanswered.run n ⟨hset, hstate, hheld, hstaged, hrxq⟩ hle hdeadline hinputs

end Sys2Proof.Machine
end
